-- ==== Sys2Proof/Word.lean ====
section
/-! DEFINITION. The widths the spec's registers and ports have. -/

namespace Sys2Proof

/-- One byte of the stream or of the frame buffer (10_state.md R23). -/
abbrev Byte := BitVec 8

/-- A 16-bit unsigned field: a Reading register, a header field, a checksum (10_state.md R20). -/
abbrev Half := BitVec 16

/-- A 32-bit unsigned number of milliseconds: `a0`, `a1`, `tmr` (10_state.md R34, R35). -/
abbrev Word := BitVec 32

end Sys2Proof
end

