-- ==== Sys2Proof/Syntax.lean ====
section
/-! DEFINITION. The instructions: one constructor per row of spec/opcode_table.json. -/

namespace Sys2Proof

/-- A frame's fields, format F256 (30_encoding.md R80): what the 32 bytes hold, field by field. -/
structure Frame where
  /-- Byte offset 0. -/
  mark0 : Byte
  /-- Byte offset 1. -/
  mark1 : Byte
  /-- Offsets 2, 3: a header field, discarded (R82). -/
  hdr0 : Half
  /-- Offsets 4, 5: a header field, discarded (R82). -/
  hdr1 : Half
  /-- Offsets 6 to 29: the twelve Reading fields in order (R83, 10_state.md R20). -/
  rd : Vector Half 12
  /-- Offsets 30, 31: the declared checksum (R84). -/
  chk : Half
  deriving DecidableEq, Repr

/-- The seven host commands, the internal function DECODE (row FRAME) and the nine reserved
opcodes (30_encoding.md R90, R91). Every command carries both arguments, because both are latched
whether or not it uses them (R87). -/
inductive Instr where
  /-- `cmd_op` 1 (43_controller.md R141). -/
  | reset (arg0 arg1 : Word)
  /-- `cmd_op` 2 (43_controller.md R142). -/
  | enable (arg0 arg1 : Word)
  /-- `cmd_op` 3 (43_controller.md R143). -/
  | disable (arg0 arg1 : Word)
  /-- `cmd_op` 4; `arg0` is the duration in ms (43_controller.md R144). -/
  | warmup (arg0 arg1 : Word)
  /-- `cmd_op` 5 (42_synchronizer.md R110). -/
  | receive (arg0 arg1 : Word)
  /-- `cmd_op` 6; `arg0` is the warm-up time in ms (44_session.md R160). -/
  | oneshot (arg0 arg1 : Word)
  /-- `cmd_op` 7; `arg0` is the warm-up time, `arg1` the measurement period, in ms (44_session.md R161). -/
  | monitor (arg0 arg1 : Word)
  /-- DECODE, run on a candidate frame in the U_CHECK cycle (41_decoder.md R100). -/
  | frame (f : Frame)
  /-- `cmd_op` 0, reserved (30_encoding.md R91), as are the eight that follow. -/
  | reserved0 (arg0 arg1 : Word)
  | reserved8 (arg0 arg1 : Word)
  | reserved9 (arg0 arg1 : Word)
  | reserved10 (arg0 arg1 : Word)
  | reserved11 (arg0 arg1 : Word)
  | reserved12 (arg0 arg1 : Word)
  | reserved13 (arg0 arg1 : Word)
  | reserved14 (arg0 arg1 : Word)
  | reserved15 (arg0 arg1 : Word)
  deriving DecidableEq, Repr

end Sys2Proof
end

