-- ==== Sys2Proof/Decode.lean ====
section
/-! DEFINITION. Bits to instructions and back (30_encoding.md): the decoder, total on any bytes and
rejecting by name, and the encoder. -/

namespace Sys2Proof

/-- The first marker byte, MARK0 (00_scope.md R8, 30_encoding.md R81). -/
def mark0Byte : Byte := 0x42

/-- The second marker byte, MARK1 (00_scope.md R8, 30_encoding.md R81). -/
def mark1Byte : Byte := 0x4D

/-- A frame row's first byte is the first marker byte (30_encoding.md R81). -/
abbrev Frame.Mark0Ok (f : Frame) : Prop := f.mark0 = mark0Byte

/-- A frame row's second byte is the second marker byte (30_encoding.md R81). -/
abbrev Frame.Mark1Ok (f : Frame) : Prop := f.mark1 = mark1Byte

/-- Two bytes as a 16-bit unsigned value, the first the more significant (00_scope.md section 5, 30_encoding.md R85). -/
def u16 (h l : Byte) : Half := h ++ l

/-- The two bytes of a 16-bit field in stream order: high byte first (20_memory.md R66). -/
def halfBytes (v : Half) : List Byte := [v.extractLsb' 8 8, v.extractLsb' 0 8]

/-- The byte offset of the first Reading field (00_scope.md R8, 30_encoding.md R83). -/
abbrev rdBase : Nat := 6

/-- The fields of the 32 bytes of a frame (30_encoding.md R80, 20_memory.md R61). -/
def Frame.ofBuf (b : Vector Byte 32) : Frame :=
  { mark0 := b[0]
    mark1 := b[1]
    hdr0 := u16 b[2] b[3]
    hdr1 := u16 b[4] b[5]
    rd := Vector.ofFn fun j : Fin 12 =>
      u16 (b[rdBase + 2 * j.val]'(by simp only [rdBase]; omega)) (b[rdBase + 2 * j.val + 1]'(by simp only [rdBase]; omega))
    chk := u16 b[30] b[31] }

/-- The 32 bytes of a frame, the first received first (30_encoding.md R80). -/
def Frame.toBytes (f : Frame) : List Byte :=
  [f.mark0, f.mark1] ++ halfBytes f.hdr0 ++ halfBytes f.hdr1 ++ f.rd.toList.flatMap halfBytes ++ halfBytes f.chk

theorem Frame.length_toBytes (f : Frame) : f.toBytes.length = 32 := by
  simp [Frame.toBytes, halfBytes, List.length_flatMap]

/-- A frame as the frame buffer holds it (10_state.md R23). -/
def Frame.toBuf (f : Frame) : Vector Byte 32 :=
  ⟨f.toBytes.toArray, by simpa using f.length_toBytes⟩

/-- Why bits are no instruction. -/
inductive DecodeError where
  /-- Neither the nine bytes that hold a command word nor the 32 bytes of a frame (30_encoding.md R94). -/
  | length (n : Nat)
  /-- Nine bytes with a bit set above the 68 of a command word (30_encoding.md R86). -/
  | padding
  /-- 32 bytes that do not begin with the marker: no frame (30_encoding.md R81, R93). -/
  | marker
  deriving DecidableEq, Repr

/-- The command a `cmd_op` and its two arguments name, by the opcode's bits 3, 2, 1, 0 as the encodings of
spec/opcode_table.json write them (30_encoding.md R90, R91). -/
def decodeCommand (op : BitVec 4) (arg0 arg1 : Word) : Instr :=
  match op[3], op[2], op[1], op[0] with
  | false, false, false, false => .reserved0 arg0 arg1
  | false, false, false, true => .reset arg0 arg1
  | false, false, true, false => .enable arg0 arg1
  | false, false, true, true => .disable arg0 arg1
  | false, true, false, false => .warmup arg0 arg1
  | false, true, false, true => .receive arg0 arg1
  | false, true, true, false => .oneshot arg0 arg1
  | false, true, true, true => .monitor arg0 arg1
  | true, false, false, false => .reserved8 arg0 arg1
  | true, false, false, true => .reserved9 arg0 arg1
  | true, false, true, false => .reserved10 arg0 arg1
  | true, false, true, true => .reserved11 arg0 arg1
  | true, true, false, false => .reserved12 arg0 arg1
  | true, true, false, true => .reserved13 arg0 arg1
  | true, true, true, false => .reserved14 arg0 arg1
  | true, true, true, true => .reserved15 arg0 arg1

/-- `cmd_op`, CW[67:64] (30_encoding.md R86). -/
def commandOp (cw : BitVec 68) : BitVec 4 := cw.extractLsb' 64 4

/-- `cmd_arg1`, CW[63:32] (30_encoding.md R86). -/
def commandArg1 (cw : BitVec 68) : Word := cw.extractLsb' 32 32

/-- `cmd_arg0`, CW[31:0] (30_encoding.md R86). -/
def commandArg0 (cw : BitVec 68) : Word := cw.extractLsb' 0 32

/-- The command of a 68-bit command word (30_encoding.md R86). -/
def decodeCommandWord (cw : BitVec 68) : Instr :=
  decodeCommand (commandOp cw) (commandArg0 cw) (commandArg1 cw)

/-- The 32 bytes of a frame taken as a 256-bit word W: BUF[k] is W[255-8k : 248-8k] (30_encoding.md R80). -/
def bufOfWord (w : BitVec 256) : Vector Byte 32 := Vector.ofFn fun k : Fin 32 => w.extractLsb' (248 - 8 * k.val) 8

/-- The number a list of bytes writes, the first byte the most significant (30_encoding.md R80, R95). -/
def natOfBytes (bs : List Byte) : Nat := bs.foldl (fun n b => n * 256 + b.toNat) 0

/-- The low `n` bytes of a number, the most significant first (30_encoding.md R80, R95). -/
def bytesOfNat : Nat → Nat → List Byte
  | 0, _ => []
  | n + 1, v => BitVec.ofNat 8 (v >>> (8 * n)) :: bytesOfNat n v

/-- The frame in 32 bytes, if they begin with the marker (30_encoding.md R80, R81). -/
def decodeFrame (b : Vector Byte 32) : Except DecodeError Instr :=
  let f := Frame.ofBuf b
  if f.Mark0Ok ∧ f.Mark1Ok then .ok (.frame f) else .error .marker

/-- The decoder, total on any bytes: 32 bytes are a frame (30_encoding.md R80), 9 bytes a command word with
four bits of padding above it (R86, R95), anything else is rejected by name. -/
def decode (bs : List Byte) : Except DecodeError Instr :=
  if h : bs.length = 32 then decodeFrame ⟨bs.toArray, by simpa using h⟩
  else if bs.length = 9 then
    if natOfBytes bs < 2 ^ 68 then .ok (decodeCommandWord (BitVec.ofNat 68 (natOfBytes bs))) else .error .padding
  else .error (.length bs.length)

/-- The command word of an opcode and its arguments (30_encoding.md R86). -/
def commandWord (op : BitVec 4) (arg0 arg1 : Word) : BitVec 68 := op ++ arg1 ++ arg0

/-- A command word in nine bytes (30_encoding.md R95: as hexadecimal digits, most significant first). -/
def commandBytes (op : BitVec 4) (arg0 arg1 : Word) : List Byte := bytesOfNat 9 (commandWord op arg0 arg1).toNat

/-- The encoder: the bytes of an instruction (30_encoding.md R80, R86, R90). -/
def encode : Instr → List Byte
  | .reserved0 arg0 arg1 => commandBytes 0 arg0 arg1
  | .reset arg0 arg1 => commandBytes 1 arg0 arg1
  | .enable arg0 arg1 => commandBytes 2 arg0 arg1
  | .disable arg0 arg1 => commandBytes 3 arg0 arg1
  | .warmup arg0 arg1 => commandBytes 4 arg0 arg1
  | .receive arg0 arg1 => commandBytes 5 arg0 arg1
  | .oneshot arg0 arg1 => commandBytes 6 arg0 arg1
  | .monitor arg0 arg1 => commandBytes 7 arg0 arg1
  | .frame f => f.toBytes
  | .reserved8 arg0 arg1 => commandBytes 8 arg0 arg1
  | .reserved9 arg0 arg1 => commandBytes 9 arg0 arg1
  | .reserved10 arg0 arg1 => commandBytes 10 arg0 arg1
  | .reserved11 arg0 arg1 => commandBytes 11 arg0 arg1
  | .reserved12 arg0 arg1 => commandBytes 12 arg0 arg1
  | .reserved13 arg0 arg1 => commandBytes 13 arg0 arg1
  | .reserved14 arg0 arg1 => commandBytes 14 arg0 arg1
  | .reserved15 arg0 arg1 => commandBytes 15 arg0 arg1

/-- The bytes of a table row's word: 32 for a frame (30_encoding.md R80), nine for a command (68 bits, 72 in whole
bytes, R86). -/
def tableBytes (nbits w : Nat) : List Byte :=
  if nbits = 256 then (bufOfWord (BitVec.ofNat 256 w)).toList else bytesOfNat 9 w

/-- The instruction the decoder reads from a word numbered as spec/opcode_table.json numbers it; only the
table's two widths, 68 bits and 256 bits, are words of it. -/
def decodeTableWord (nbits w : Nat) : Option Instr :=
  if (nbits = 256 ∨ nbits = 68 ∨ nbits = 72) ∧ w < 2 ^ nbits then (decode (tableBytes nbits w)).toOption else none

end Sys2Proof
end

