-- ==== Sys2Proof/Config.lean ====
section
/-! DEFINITION. The parameters of the block, its input ports, and the values the spec leaves open. -/

namespace Sys2Proof

/-- The parameters fixed for the life of a block (00_scope.md R6, R7). -/
structure Params where
  /-- `N_MS - 1`: `N_MS` is a positive number of clock cycles (R6), so this is any natural number. -/
  msLast : Nat
  /-- The reset line is Present (R7). -/
  hasRst : Bool
  /-- The enable line is Present (R7). -/
  hasEn : Bool
  deriving DecidableEq, Repr, Inhabited

/-- `N_MS`, the number of clock cycles in one millisecond (00_scope.md R6). -/
def Params.nMs (p : Params) : Nat := p.msLast + 1

/-- The input ports of one cycle (00_scope.md R9), less `rx_avail` and `rx_data`, which show the stream
collaborator's buffer (20_memory.md R62). -/
structure Ports where
  rst : Bool
  cmdValid : Bool
  cmdOp : BitVec 4
  cmdArg0 : Word
  cmdArg1 : Word
  cancelReq : Bool
  rxFail : Bool
  deriving DecidableEq, Repr, Inhabited

/-- Every input port 0. -/
def Ports.quiet : Ports :=
  { rst := false, cmdValid := false, cmdOp := 0, cmdArg0 := 0, cmdArg1 := 0, cancelReq := false, rxFail := false }

/-- What the outside does in one cycle: the input ports, and the bytes that become available to the block
from that cycle on, oldest first (10_state.md R40). -/
structure EnvCycle where
  ports : Ports
  arrivals : List Byte
  deriving DecidableEq, Repr, Inhabited

/-- The parameters of the block at hand: open (93_implementation_defined.md U7). -/
opaque Config.params : Params

/-- The inputs of a cycle no list of inputs reaches: any inputs (10_state.md R40; 93_implementation_defined.md U18, U19). -/
opaque Config.freeEnv : Nat → EnvCycle

/-- `a0` after an `rst` cycle: unspecified (10_state.md R41; 93_implementation_defined.md U2). -/
opaque Config.freeA0 : Nat → Word

/-- `a1` after an `rst` cycle: unspecified (10_state.md R41; 93_implementation_defined.md U2). -/
opaque Config.freeA1 : Nat → Word

/-- BUF after an `rst` cycle: unspecified (10_state.md R41; 93_implementation_defined.md U2). -/
opaque Config.freeBuf : Nat → Vector Byte 32

/-- RD0 to RD11 after an `rst` cycle: unspecified (10_state.md R41; 93_implementation_defined.md U2). -/
opaque Config.freeRd : Nat → Vector Half 12

end Sys2Proof
end

