-- ==== Sys2Proof/Machine/State.lean ====
section
/-! DEFINITION. The state of the block and of what stands at its ports, the state after reset, and the
reasons a step can stop. -/

namespace Sys2Proof.Machine

/-- The SensorController state `cst` (10_state.md R31). -/
inductive Cst where
  | suspended | resetting | enabled | disabled
  deriving DecidableEq, Repr

/-- The SessionRunner state `sst` (10_state.md R32). -/
inductive Sst where
  | init | warming | reading | reporting | cooling | done
  deriving DecidableEq, Repr

/-- The micro-state `ust` (10_state.md R33). -/
inductive Ust where
  | idle | rsten | settle | wait | drain | hunt | mark2 | body | check
  deriving DecidableEq, Repr

/-- The result code `res` (60_exceptions.md R182). -/
inductive Res where
  | ok | cancelled | streamFail | illegal
  deriving DecidableEq, Repr

/-- A number of a row of the sequencer table, 0 to 33 (10_state.md R25, 44_session.md R151). -/
abbrev RowNum := Fin 34

/-- The whole machine at the start of a cycle: the registers of 10_state.md, the strobes of the cycle before,
and what stands at the input ports. -/
structure State where
  /-- `N_MS`, `HAS_RST`, `HAS_EN`: parameters no step writes (00_scope.md R6, R7; 10_state.md R39). -/
  par : Params
  /-- A command is being executed (10_state.md R26). -/
  busy : Bool
  /-- `op_l`: the opcode last accepted; no rule reads it (10_state.md R27). -/
  opL : BitVec 4
  /-- The sticky cancellation flag (10_state.md R28). -/
  cancel : Bool
  /-- The most recent receive produced a Reading (10_state.md R29). -/
  got : Bool
  /-- The result code (10_state.md R30). -/
  res : Res
  /-- The controller state (10_state.md R31). -/
  cst : Cst
  /-- The session state (10_state.md R32). -/
  sst : Sst
  /-- The micro-state (10_state.md R33). -/
  ust : Ust
  /-- The sequencer row that executes next (10_state.md R25). -/
  upc : RowNum
  /-- Bytes of the candidate frame gathered in `buf` (10_state.md R24). -/
  cnt : BitVec 6
  /-- Milliseconds left in the running wait (10_state.md R35). -/
  tmr : Word
  /-- Cycles counted in the current millisecond (10_state.md R35). -/
  pre : Nat
  /-- The latched warm-up time in ms (10_state.md R34). -/
  a0 : Word
  /-- The latched measurement period in ms (10_state.md R34). -/
  a1 : Word
  /-- The level of the enable line, true for high (10_state.md R36). -/
  lineEn : Bool
  /-- The level of the reset line, true for high (10_state.md R37). -/
  lineRst : Bool
  /-- BUF, the frame buffer: 32 registers of 8 bits (10_state.md R23). -/
  buf : Vector Byte 32
  /-- RD0 to RD11, the Reading (10_state.md R20). -/
  rd : Vector Half 12
  /-- `rx_pop` in the cycle just executed (00_scope.md R9, R11). -/
  rxPop : Bool
  /-- `report_stb` in the cycle just executed (00_scope.md R9, R11). -/
  reportStb : Bool
  /-- `done_stb` in the cycle just executed (00_scope.md R9, R11). -/
  doneStb : Bool
  /-- `ev_chk` in the cycle just executed (00_scope.md R9, R11). -/
  evChk : Bool
  /-- The bytes the stream collaborator holds, oldest first (10_state.md R40). -/
  rxq : List Byte
  /-- The input ports of the cycle about to execute (00_scope.md R9). -/
  ports : Ports
  /-- The inputs of the cycles after that one, the next first (the model's own field). -/
  upcoming : List EnvCycle
  /-- How many cycles have executed: the index of the free values (the model's own field). -/
  cycle : Nat
  deriving DecidableEq, Repr

/-- Why the machine stops with a fault. -/
inductive Fault where
  /-- Raised by U_BODY (42_synchronizer.md R114) when `cnt` is 32 or more: the frame byte space has offsets 0 to 31
  only (20_memory.md R60). No run reaches such a state (R114: 2 <= cnt <= 31 there). Safe: the model stops. -/
  | frameOffset
  deriving DecidableEq, Repr

/-- Why an instruction has no meaning. -/
inductive Refusal where
  /-- Raised by `exec` for an instruction the model gives no meaning yet; no arm does now. Safe: the model stops. -/
  | notModelled (mnemonic : String)
  deriving DecidableEq, Repr

/-- The state after a cycle with `rst = 1` (10_state.md R41), for a block with parameters `p`: every register at
the value the spec gives; `a0`, `a1`, BUF and RD, which it leaves unspecified, at 0 (DESIGN CHOICE, log 1); nothing
at the ports and no byte buffered (DESIGN CHOICE, log 4). -/
def State.resetWith (p : Params) : State :=
  { par := p
    busy := false
    opL := 0
    cancel := false
    got := false
    res := .ok
    cst := .suspended
    sst := .init
    ust := .idle
    upc := 0
    cnt := 0
    tmr := 0
    pre := 0
    a0 := 0
    a1 := 0
    lineEn := false
    lineRst := true
    buf := Vector.replicate 32 0
    rd := Vector.replicate 12 0
    rxPop := false
    reportStb := false
    doneStb := false
    evChk := false
    rxq := []
    ports := Ports.quiet
    upcoming := []
    cycle := 0 }

/-- The machine right after reset, with the open parameters (10_state.md R41; 93_implementation_defined.md U7). -/
def State.reset : State := State.resetWith Config.params

end Sys2Proof.Machine
end

