-- ==== Sys2Proof/Machine/Ops.lean ====
section
/-! DEFINITION. The named operations the rules share: the timer, the stream, the control lines, the events and
their entry, the acceptance of a command, the hardware reset, and the beginning and end of a cycle. -/

namespace Sys2Proof.Machine

/-- What a rule of one cycle answers. -/
abbrev Answer := Host.Outcome State Fault Refusal

/-! ### The timer (60_exceptions.md R195) -/

/-- `T_SHORT_MS`, the short timeout of the synchronizer (00_scope.md R8). -/
abbrev tShortMs : Word := 100

/-- `T_SETTLE_MS`, the settle delay of `reset()` (00_scope.md R8). -/
abbrev tSettleMs : Word := 100

/-- `load(v)` (60_exceptions.md R195). -/
def State.load (v : Word) (s : State) : State := { s with tmr := v, pre := 0 }

/-- `expired` (60_exceptions.md R195). -/
def State.expired (s : State) : Bool := s.tmr == 0

/-- `tick()` (60_exceptions.md R195). -/
def State.tick (s : State) : State :=
  if s.tmr = 0 then s
  else if s.pre = s.par.nMs - 1 then { s with pre := 0, tmr := s.tmr - 1 }
  else { s with pre := s.pre + 1 }

/-! ### The stream (20_memory.md R62 to R65) -/

/-- `StreamAvail()`, this cycle's `rx_avail` (20_memory.md R62). -/
def State.rxAvail (s : State) : Bool := !s.rxq.isEmpty

/-- `StreamFail()`, this cycle's `rx_fail` (20_memory.md R65). -/
def State.rxFail (s : State) : Bool := s.ports.rxFail

/-- `StreamPop()` (20_memory.md R64): the oldest byte and the state without it, `rx_pop` set; nothing in a cycle
without a byte or with `rx_fail`, in which no rule may call it. -/
def State.streamPop (s : State) : Option (Byte × State) :=
  match s.ports.rxFail, s.rxq with
  | false, b :: rest => some (b, { s with rxq := rest, rxPop := true })
  | _, _ => none

/-! ### The control lines (10_state.md R36, R37) -/

/-- Drive the enable line; nothing if it is absent (10_state.md R36, 43_controller.md R136). -/
def State.driveEn (level : Bool) (s : State) : State :=
  if s.par.hasEn then { s with lineEn := level } else s

/-- Drive the reset line; nothing if it is absent (10_state.md R37, 43_controller.md R136; log 10). -/
def State.driveRst (level : Bool) (s : State) : State :=
  if s.par.hasRst then { s with lineRst := level } else s

/-! ### Taking an event (60_exceptions.md section 4); nothing is saved and there is no return (R191, R194) -/

/-- `discard_to_hunt()`: the entry for a frame-level event (60_exceptions.md R191, 42_synchronizer.md R118). -/
def State.discardToHunt (s : State) : State := { s with cnt := 0, ust := .hunt }

/-- `fail_receive(code)`: the entry for an event that ends a receive (60_exceptions.md R192). -/
def State.failReceive (code : Res) (s : State) : State :=
  { s with got := false, res := code, cnt := 0, ust := .idle }

/-- The entry for a cancelled wait (60_exceptions.md R193). -/
def State.cancelWait (s : State) : State := { s with res := .cancelled, ust := .idle }

/-! ### Accepting a command (30_encoding.md R92) -/

/-- What every acceptance writes (30_encoding.md R92): the command is latched, `got` is cleared, the result code
and the first row are set. -/
def State.accept (op : BitVec 4) (arg0 arg1 : Word) (code : Res) (entry : RowNum) (s : State) : State :=
  { s with busy := true, opL := op, a0 := arg0, a1 := arg1, got := false, res := code, upc := entry }

/-- A command at the port: taken when the block is not busy, else ignored without a trace
(30_encoding.md R92, 70_reset_and_hazards.md R216). -/
def offer (taken : State → State) (s : State) : Answer :=
  if s.busy then .next s else .next (taken s)

/-! ### The hardware reset (70_reset_and_hazards.md R210) -/

/-- A cycle with `rst = 1`: every register takes the value of the reset table (10_state.md R41); `a0`, `a1`, BUF
and RD become unspecified, here free values of this cycle (log 2). The collaborator's buffer is not the block's. -/
def State.hardReset (s : State) : State :=
  { s with
    cst := .suspended, lineEn := false, lineRst := true, sst := .init, ust := .idle, busy := false, upc := 0,
    opL := 0, cancel := false, got := false, res := .ok, cnt := 0, tmr := 0, pre := 0,
    a0 := Config.freeA0 s.cycle, a1 := Config.freeA1 s.cycle,
    buf := Config.freeBuf s.cycle, rd := Config.freeRd s.cycle }

/-! ### The beginning and the end of a cycle (00_scope.md R10, R11) -/

/-- The strobes are 0 in a cycle but for those the rule that fires sets (00_scope.md R11). -/
def State.beginCycle (s : State) : State :=
  { s with rxPop := false, reportStb := false, doneStb := false, evChk := false }

/-- The cancellation flag's update, which fires beside every rule in a cycle without `rst` (10_state.md R28);
a request in a reset cycle is lost (70_reset_and_hazards.md R210). -/
def State.latchCancel (s : State) : State :=
  { s with cancel := !s.ports.rst && (s.cancel || s.ports.cancelReq) }

/-- The next cycle's inputs: the next of the list, or free ones once the list is empty (log 4). -/
def State.nextEnv (s : State) : EnvCycle :=
  match s.upcoming with
  | e :: _ => e
  | [] => Config.freeEnv s.cycle

/-- The inputs change to the next cycle's: the ports, and the bytes that arrive behind those still held
(20_memory.md R63: an unconsumed byte stays at the head). -/
def State.nextInputs (s : State) : State :=
  { s with
    ports := s.nextEnv.ports, rxq := s.rxq ++ s.nextEnv.arrivals, upcoming := s.upcoming.tail, cycle := s.cycle + 1 }

/-- What happens beside and after the rule of a cycle. -/
def State.endCycle (s : State) : State := s.latchCancel.nextInputs

/-! ### Placing an instruction where the next cycle runs it (log 11) -/

/-- A command at the command port, and no `rst`, in the coming cycle of an idle block (30_encoding.md R92). -/
def State.placeCommand (op : BitVec 4) (arg0 arg1 : Word) (s : State) : State :=
  { s with
    busy := false
    ports := { s.ports with rst := false, cmdValid := true, cmdOp := op, cmdArg0 := arg0, cmdArg1 := arg1 } }

/-- A candidate frame gathered whole, and no `rst`, so that the coming cycle is its U_CHECK cycle
(42_synchronizer.md R114, R115). -/
def State.placeFrame (b : Vector Byte 32) (s : State) : State :=
  { s with busy := true, ust := .check, cnt := 32, buf := b, ports := { s.ports with rst := false } }

end Sys2Proof.Machine
end

