-- ==== Sys2Proof/Machine/Operands.lean ====
section
/-! DEFINITION. The operand forms: the three operands of a WAIT row, and the bytes and fields DECODE reads. -/

namespace Sys2Proof.Machine

/-- What a WAIT row names (43_controller.md R137). -/
inductive WaitOperand where
  | a0 | a1 | a1SubA0
  deriving DecidableEq, Repr

/-- The operand's value, 32 bits unsigned (43_controller.md R137). `a1 - a0` is formed in a run only when `a1 > a0`
(44_session.md R162); elsewhere it is the 32-bit difference (log 7). -/
def WaitOperand.value (o : WaitOperand) (s : State) : Word :=
  match o with
  | .a0 => s.a0
  | .a1 => s.a1
  | .a1SubA0 => s.a1 - s.a0

/-- `SUM_LEN`, the bytes summed (00_scope.md R8). -/
abbrev sumLen : Nat := 30

/-- The computed checksum: bytes 0 to 29 added as unsigned integers, modulo 65536 (41_decoder.md R101). -/
def checksum (bytes : List Byte) : Half := BitVec.ofNat 16 ((bytes.take sumLen).map BitVec.toNat).sum

/-- DECODE: whether the computed checksum equals the declared one, and the twelve fields (41_decoder.md R100 to
R104). The marker, the header fields and the ranges are not looked at (R105). -/
def decodeBuf (b : Vector Byte 32) : Bool × Vector Half 12 :=
  (checksum b.toList == (Frame.ofBuf b).chk, (Frame.ofBuf b).rd)

end Sys2Proof.Machine
end

