-- ==== Sys2Proof/Machine/Controller.lean ====
section
/-! DEFINITION. The sensor controller (43_controller.md): the micro-operations RST, EN, DIS, WAIT and DRAIN, the
micro-routines U_RSTEN, U_SETTLE, U_WAIT and U_DRAIN, and the commands RESET, ENABLE, DISABLE, WARMUP.
A command's meaning is the cycle that accepts it; its rows and routines run in the cycles after (log 3). -/

namespace Sys2Proof.Machine

/-- The RST row: first step of `reset()`; nothing if there is no reset line (43_controller.md R131). -/
def State.rstOp (s : State) : State :=
  if s.par.hasRst then { s.driveRst false with cst := .resetting, ust := .rsten } else s

/-- U_RSTEN: second step of `reset()` (43_controller.md R132). -/
def State.rstenCycle (s : State) : State := { (s.driveEn true).load tSettleMs with ust := .settle }

/-- U_SETTLE: third step of `reset()`, not cancellable (43_controller.md R133). -/
def State.settleCycle (s : State) : State :=
  if s.expired then
    { s.driveRst true with cst := if s.par.hasEn then .enabled else .suspended, ust := .idle }
  else s.tick

/-- The EN row: `enable()`; nothing if there is no enable line (43_controller.md R134). -/
def State.enOp (s : State) : State := if s.par.hasEn then { s.driveEn true with cst := .enabled } else s

/-- The DIS row: `disable()`; nothing if there is no enable line (43_controller.md R135). -/
def State.disOp (s : State) : State := if s.par.hasEn then { s.driveEn false with cst := .disabled } else s

/-- The WAIT row: start of a cancellable wait (43_controller.md R137). -/
def State.waitOp (o : WaitOperand) (s : State) : State := { s.load (o.value s) with ust := .wait }

/-- U_WAIT: the cancellable wait (43_controller.md R138). -/
def State.waitCycle (s : State) : State :=
  if s.cancel then s.cancelWait else if s.expired then { s with ust := .idle } else s.tick

/-- The DRAIN row (43_controller.md R139). -/
def State.drainOp (s : State) : State := { s with ust := .drain }

/-- U_DRAIN: drop the bytes now buffered, one per cycle, without waiting (43_controller.md R139). -/
def State.drainCycle (s : State) : State :=
  match s.streamPop with
  | some (_, t) => t
  | none => { s with ust := .idle }

/-- RESET: entry row 1 (43_controller.md R141, 30_encoding.md R92). -/
def execReset (arg0 arg1 : Word) (s : State) : Answer := offer (State.accept 1 arg0 arg1 .ok 1) s

/-- ENABLE: entry row 2 (43_controller.md R142, 30_encoding.md R92). -/
def execEnable (arg0 arg1 : Word) (s : State) : Answer := offer (State.accept 2 arg0 arg1 .ok 2) s

/-- DISABLE: entry row 3 (43_controller.md R143, 30_encoding.md R92). -/
def execDisable (arg0 arg1 : Word) (s : State) : Answer := offer (State.accept 3 arg0 arg1 .ok 3) s

/-- WARMUP: entry row 4 (43_controller.md R144, 30_encoding.md R92). -/
def execWarmup (arg0 arg1 : Word) (s : State) : Answer := offer (State.accept 4 arg0 arg1 .ok 4) s

end Sys2Proof.Machine
end

