-- ==== Sys2Proof/Machine/Reserved.lean ====
section
/-! DEFINITION. The reserved opcodes 0 and 8 to 15 (30_encoding.md R91): accepted like any other command, they
do nothing and complete in the next cycle with the result code ILLEGAL (60_exceptions.md R187). -/

namespace Sys2Proof.Machine

/-- The acceptance of a reserved opcode: `res <- ILLEGAL`, `upc <- 0`, the FIN row (30_encoding.md R91, R92). -/
def acceptReserved (op : BitVec 4) (arg0 arg1 : Word) (s : State) : Answer :=
  offer (State.accept op arg0 arg1 .illegal 0) s

/-- RESERVED_0 (30_encoding.md R91). -/
def execReserved0 (arg0 arg1 : Word) (s : State) : Answer := acceptReserved 0 arg0 arg1 s

/-- RESERVED_8 (30_encoding.md R91). -/
def execReserved8 (arg0 arg1 : Word) (s : State) : Answer := acceptReserved 8 arg0 arg1 s

/-- RESERVED_9 (30_encoding.md R91). -/
def execReserved9 (arg0 arg1 : Word) (s : State) : Answer := acceptReserved 9 arg0 arg1 s

/-- RESERVED_10 (30_encoding.md R91). -/
def execReserved10 (arg0 arg1 : Word) (s : State) : Answer := acceptReserved 10 arg0 arg1 s

/-- RESERVED_11 (30_encoding.md R91). -/
def execReserved11 (arg0 arg1 : Word) (s : State) : Answer := acceptReserved 11 arg0 arg1 s

/-- RESERVED_12 (30_encoding.md R91). -/
def execReserved12 (arg0 arg1 : Word) (s : State) : Answer := acceptReserved 12 arg0 arg1 s

/-- RESERVED_13 (30_encoding.md R91). -/
def execReserved13 (arg0 arg1 : Word) (s : State) : Answer := acceptReserved 13 arg0 arg1 s

/-- RESERVED_14 (30_encoding.md R91). -/
def execReserved14 (arg0 arg1 : Word) (s : State) : Answer := acceptReserved 14 arg0 arg1 s

/-- RESERVED_15 (30_encoding.md R91). -/
def execReserved15 (arg0 arg1 : Word) (s : State) : Answer := acceptReserved 15 arg0 arg1 s

end Sys2Proof.Machine
end

