-- ==== Sys2Proof/Machine/Session.lean ====
section
/-! DEFINITION. The session commands ONESHOT and MONITOR (44_session.md section 2): what their acceptance writes.
Their rows stand in the table of Machine/Sequencer.lean. -/

namespace Sys2Proof.Machine

/-- ONESHOT: entry row 7, and `sst <- INIT` (44_session.md R155, R160; 30_encoding.md R92). -/
def execOneshot (arg0 arg1 : Word) (s : State) : Answer :=
  offer (fun s => { s.accept 6 arg0 arg1 .ok 7 with sst := .init }) s

/-- MONITOR: entry row 16, and `sst <- INIT` (44_session.md R155, R161; 30_encoding.md R92). -/
def execMonitor (arg0 arg1 : Word) (s : State) : Answer :=
  offer (fun s => { s.accept 7 arg0 arg1 .ok 16 with sst := .init }) s

end Sys2Proof.Machine
end

