-- ==== Sys2Proof/Machine/Synchronizer.lean ====
section
/-! DEFINITION. The frame synchronizer (42_synchronizer.md): the RECV row, the micro-states U_HUNT, U_MARK2, U_BODY
and U_CHECK, the command RECEIVE, and DECODE as the U_CHECK cycle runs it (table row FRAME). In each micro-state the
first condition that holds decides the cycle (60_exceptions.md R190). -/

namespace Sys2Proof.Machine

/-- `FRAME_LEN` (00_scope.md R8). -/
abbrev frameLen : BitVec 6 := 32

/-- The RECV row: start of a receive (42_synchronizer.md R111). -/
def State.recvOp (s : State) : State := { s with got := false, cnt := 0, ust := .hunt }

/-- U_HUNT: step 1, the resynchronization point (42_synchronizer.md R112). -/
def State.huntCycle (s : State) : State :=
  if s.cancel then s.failReceive .cancelled
  else if s.rxFail then s.failReceive .streamFail
  else match s.streamPop with
    | some (b, t) =>
      if b = mark0Byte then { t.load tShortMs with buf := t.buf.set 0 b, cnt := 1, ust := .mark2 } else t
    | none => s

/-- U_MARK2: step 2, one byte within the short window (42_synchronizer.md R113). -/
def State.mark2Cycle (s : State) : State :=
  if s.rxFail then s.failReceive .streamFail
  else match s.streamPop with
    | some (b, t) =>
      if b = mark1Byte then
        if s.cancel then t.failReceive .cancelled
        else { t.load tShortMs with buf := t.buf.set 1 b, cnt := 2, ust := .body }
      else t.discardToHunt
    | none => if s.expired then s.discardToHunt else s.tick

/-- A byte of the body popped: it is stored at offset `cnt`, the count goes up, the window goes on
(42_synchronizer.md R114). The offset must exist (20_memory.md R60). -/
def State.storeBody (b : Byte) (t : State) : Answer :=
  if h : t.cnt.toNat < 32 then
    .next (State.tick
      { t with
        buf := t.buf.set t.cnt.toNat b h
        cnt := t.cnt + 1
        ust := if t.cnt + 1 = frameLen then .check else t.ust })
  else .fault .frameOffset

/-- U_BODY: step 3, the remaining 30 bytes within one window (42_synchronizer.md R114). -/
def State.bodyCycle (s : State) : Answer :=
  if s.rxFail then .next (s.failReceive .streamFail)
  else match s.streamPop with
    | some (b, t) => t.storeBody b
    | none => .next (if s.expired then s.discardToHunt else s.tick)

/-- RECEIVE: entry row 6 (42_synchronizer.md R110, 30_encoding.md R92). -/
def execReceive (arg0 arg1 : Word) (s : State) : Answer := offer (State.accept 5 arg0 arg1 .ok 6) s

/-- DECODE in the U_CHECK cycle: step 4 (42_synchronizer.md R115, 41_decoder.md R100). A valid frame loads RD whole;
an Invalid one pulses `ev_chk` and the hunt resumes (60_exceptions.md R183). -/
def execFrame (f : Frame) (s : State) : Answer :=
  match decodeBuf f.toBuf with
  | (true, fields) => .next { s with rd := fields, got := true, res := .ok, ust := .idle }
  | (false, _) => .next { s.discardToHunt with evChk := true }

end Sys2Proof.Machine
end

