-- ==== Sys2Proof/Machine/Dispatch.lean ====
section
/-! DEFINITION. exec: one arm per constructor of Instr, each a direct call of its meaning. -/

namespace Sys2Proof.Machine

def exec (i : Instr) (s : State) : Host.Outcome State Fault Refusal :=
  match i with
  | .reset arg0 arg1 => Sys2Proof.Machine.execReset arg0 arg1 s
  | .enable arg0 arg1 => Sys2Proof.Machine.execEnable arg0 arg1 s
  | .disable arg0 arg1 => Sys2Proof.Machine.execDisable arg0 arg1 s
  | .warmup arg0 arg1 => Sys2Proof.Machine.execWarmup arg0 arg1 s
  | .receive arg0 arg1 => Sys2Proof.Machine.execReceive arg0 arg1 s
  | .oneshot arg0 arg1 => Sys2Proof.Machine.execOneshot arg0 arg1 s
  | .monitor arg0 arg1 => Sys2Proof.Machine.execMonitor arg0 arg1 s
  | .frame f => Sys2Proof.Machine.execFrame f s
  | .reserved0 arg0 arg1 => Sys2Proof.Machine.execReserved0 arg0 arg1 s
  | .reserved8 arg0 arg1 => Sys2Proof.Machine.execReserved8 arg0 arg1 s
  | .reserved9 arg0 arg1 => Sys2Proof.Machine.execReserved9 arg0 arg1 s
  | .reserved10 arg0 arg1 => Sys2Proof.Machine.execReserved10 arg0 arg1 s
  | .reserved11 arg0 arg1 => Sys2Proof.Machine.execReserved11 arg0 arg1 s
  | .reserved12 arg0 arg1 => Sys2Proof.Machine.execReserved12 arg0 arg1 s
  | .reserved13 arg0 arg1 => Sys2Proof.Machine.execReserved13 arg0 arg1 s
  | .reserved14 arg0 arg1 => Sys2Proof.Machine.execReserved14 arg0 arg1 s
  | .reserved15 arg0 arg1 => Sys2Proof.Machine.execReserved15 arg0 arg1 s

end Sys2Proof.Machine
end

