-- ==== Sys2Proof/Machine/Flags.lean ====
section
/-! DEFINITION. The conditions the branch rows test and the codes the status outputs show. -/

namespace Sys2Proof.Machine

/-- The condition of a BZW row, `a0 == 0` (44_session.md R153). -/
def State.noWarmup (s : State) : Bool := s.a0 == 0

/-- The condition of a BCANCEL row (44_session.md R153). -/
def State.cancelled (s : State) : Bool := s.cancel

/-- The condition of a BNOGOT row, `got == 0` (44_session.md R153). -/
def State.noReading (s : State) : Bool := !s.got

/-- The condition of a BNOSLEEP row, `a1 <= a0` unsigned: `sleep_period <= 0` (44_session.md R153, R162). -/
def State.noSleep (s : State) : Bool := decide (s.a1 ≤ s.a0)

/-- The code of a result (60_exceptions.md R182). -/
def Res.code : Res → BitVec 2
  | .ok => 0 | .cancelled => 1 | .streamFail => 2 | .illegal => 3

/-- The code of a controller state (10_state.md R31). -/
def Cst.code : Cst → BitVec 2
  | .suspended => 0 | .resetting => 1 | .enabled => 2 | .disabled => 3

/-- The code of a session state (10_state.md R32). -/
def Sst.code : Sst → BitVec 3
  | .init => 0 | .warming => 1 | .reading => 2 | .reporting => 3 | .cooling => 4 | .done => 5

/-- The code of a micro-state (10_state.md R33). -/
def Ust.code : Ust → BitVec 4
  | .idle => 0 | .rsten => 1 | .settle => 2 | .wait => 3 | .drain => 4 | .hunt => 5 | .mark2 => 6 | .body => 7
  | .check => 8

end Sys2Proof.Machine
end

