-- ==== Sys2Proof/Machine/Sequencer.lean ====
section
/-! DEFINITION. The sequencer (44_session.md section 1): its fixed table, the execution of a row, and which rule fires
in a cycle. -/

namespace Sys2Proof.Machine

/-- The micro-operations of a row; a branch carries its target (44_session.md R151). -/
inductive MicroOp where
  | fin
  | rst
  | en
  | dis
  | wait (o : WaitOperand)
  | drain
  | recv
  | bzw (target : RowNum)
  | bcancel (target : RowNum)
  | bnogot (target : RowNum)
  | bnosleep (target : RowNum)
  | report
  | nop
  deriving DecidableEq, Repr

/-- A row of the sequencer table (44_session.md R151). -/
structure Row where
  /-- The session-state update, if any. -/
  sst : Option Sst
  /-- The micro-operation and its operand. -/
  op : MicroOp
  /-- The successor row; for FIN, which has none, the 0 that `upc` keeps (R152). -/
  next : RowNum
  deriving DecidableEq, Repr

/-- Rows 0 to 6: FIN and the five primitive commands (44_session.md R151). -/
def primitiveRows : List Row :=
  [ ⟨none, .fin, 0⟩,
    ⟨none, .rst, 0⟩,
    ⟨none, .en, 0⟩,
    ⟨none, .dis, 0⟩,
    ⟨none, .wait .a0, 5⟩,
    ⟨none, .drain, 0⟩,
    ⟨none, .recv, 0⟩ ]

/-- Rows 7 to 15: ONESHOT (44_session.md R151). -/
def oneshotRows : List Row :=
  [ ⟨none, .rst, 8⟩,
    ⟨none, .en, 9⟩,
    ⟨none, .bzw 12, 10⟩,
    ⟨none, .wait .a0, 11⟩,
    ⟨none, .drain, 12⟩,
    ⟨some .reading, .recv, 13⟩,
    ⟨none, .bnogot 15, 14⟩,
    ⟨some .reporting, .report, 15⟩,
    ⟨some .done, .dis, 0⟩ ]

/-- Rows 16 to 33: MONITOR (44_session.md R151). -/
def monitorRows : List Row :=
  [ ⟨none, .rst, 17⟩,
    ⟨none, .en, 18⟩,
    ⟨some .warming, .wait .a0, 19⟩,
    ⟨none, .drain, 20⟩,
    ⟨none, .bcancel 31, 21⟩,
    ⟨some .reading, .recv, 22⟩,
    ⟨none, .bnogot 31, 23⟩,
    ⟨some .reporting, .report, 24⟩,
    ⟨some .cooling, .bnosleep 28, 25⟩,
    ⟨none, .dis, 26⟩,
    ⟨none, .wait .a1SubA0, 27⟩,
    ⟨none, .bcancel 31, 32⟩,
    ⟨none, .wait .a1, 29⟩,
    ⟨none, .bcancel 31, 30⟩,
    ⟨some .warming, .nop, 21⟩,
    ⟨some .done, .dis, 0⟩,
    ⟨some .warming, .rst, 33⟩,
    ⟨none, .en, 18⟩ ]

/-- The sequencer table, 34 rows (44_session.md R151). -/
def seqTable : List Row := primitiveRows ++ oneshotRows ++ monitorRows

theorem length_seqTable : seqTable.length = 34 := by decide

/-- Row `n` of the table. -/
def rowAt (n : RowNum) : Row := seqTable[n.val]'(by rw [length_seqTable]; exact n.isLt)

/-- The row's session-state update (44_session.md R155). -/
def State.labelSession (label : Option Sst) (s : State) : State :=
  match label with
  | some v => { s with sst := v }
  | none => s

/-- What a micro-operation does beside choosing the next row (44_session.md R151 to R154). -/
def State.microOp (op : MicroOp) (s : State) : State :=
  match op with
  | .fin => { s with busy := false, doneStb := true }
  | .rst => s.rstOp
  | .en => s.enOp
  | .dis => s.disOp
  | .wait o => s.waitOp o
  | .drain => s.drainOp
  | .recv => s.recvOp
  | .bcancel _ => if s.cancelled then { s with res := .cancelled } else s
  | .report => { s with reportStb := true }
  | .bzw _ | .bnogot _ | .bnosleep _ | .nop => s

/-- The row that follows: a branch's target if its condition holds, else the successor (44_session.md R153). -/
def Row.nextRow (r : Row) (s : State) : RowNum :=
  match r.op with
  | .bzw target => if s.noWarmup then target else r.next
  | .bcancel target => if s.cancelled then target else r.next
  | .bnogot target => if s.noReading then target else r.next
  | .bnosleep target => if s.noSleep then target else r.next
  | .fin | .rst | .en | .dis | .wait _ | .drain | .recv | .report | .nop => r.next

/-- The sequencer executes one row (44_session.md R150 case 4). Every condition reads the state at the start of the
cycle (00_scope.md R10). -/
def State.rowCycle (s : State) : State :=
  let r := rowAt s.upc
  { (s.labelSession r.sst).microOp r.op with upc := r.nextRow s }

/-- The rules of which exactly one fires in a cycle (00_scope.md R10, 44_session.md R150). -/
inductive CycleRule where
  /-- Reset (70_reset_and_hazards.md R210). -/
  | rst
  /-- The block is idle and no command is offered: nothing (30_encoding.md R92). -/
  | idle
  /-- An instruction runs: a command is at the port of an idle block (30_encoding.md R92), or a candidate frame is
  whole and DECODE is applied to it (42_synchronizer.md R115). -/
  | instr (i : Instr)
  /-- A row of the sequencer (44_session.md R150 case 4). -/
  | row
  /-- U_RSTEN (43_controller.md R132). -/
  | rsten
  /-- U_SETTLE (43_controller.md R133). -/
  | settle
  /-- U_WAIT (43_controller.md R138). -/
  | wait
  /-- U_DRAIN (43_controller.md R139). -/
  | drain
  /-- U_HUNT (42_synchronizer.md R112). -/
  | hunt
  /-- U_MARK2 (42_synchronizer.md R113). -/
  | mark2
  /-- U_BODY (42_synchronizer.md R114). -/
  | body
  deriving DecidableEq, Repr

/-- The rule of a busy block's micro-state (44_session.md R150 cases 3 and 4). -/
def State.busyRule (s : State) : CycleRule :=
  match s.ust with
  | .idle => .row
  | .rsten => .rsten
  | .settle => .settle
  | .wait => .wait
  | .drain => .drain
  | .hunt => .hunt
  | .mark2 => .mark2
  | .body => .body
  | .check => .instr (.frame (Frame.ofBuf s.buf))

/-- The command at the command port (30_encoding.md R86, R90). -/
def State.portCommand (s : State) : Instr := decodeCommand s.ports.cmdOp s.ports.cmdArg0 s.ports.cmdArg1

/-- Which rule fires, tested in the order of 44_session.md R150. -/
def State.rule (s : State) : CycleRule :=
  if s.ports.rst then .rst
  else if s.busy then s.busyRule
  else if s.ports.cmdValid then .instr s.portCommand
  else .idle

end Sys2Proof.Machine
end

