-- ==== Sys2Proof/Machine/Step.lean ====
section
/-! DEFINITION. One step: one cycle of the clock (00_scope.md R5). -/

namespace Sys2Proof.Machine

/-- The rule of the cycle fires (00_scope.md R10). -/
def fire (r : CycleRule) (s : State) : Answer :=
  match r with
  | .rst => .next s.hardReset
  | .idle => .next s
  | .instr i => exec i s
  | .row => .next s.rowCycle
  | .rsten => .next s.rstenCycle
  | .settle => .next s.settleCycle
  | .wait => .next s.waitCycle
  | .drain => .next s.drainCycle
  | .hunt => .next s.huntCycle
  | .mark2 => .next s.mark2Cycle
  | .body => s.bodyCycle

/-- What the end of the cycle makes of the rule's answer. -/
def finish : Answer → Answer
  | .next t => .next t.endCycle
  | .fault f => .fault f
  | .refused r => .refused r

/-- One cycle: the strobes fall, exactly one rule fires, and the cancellation flag and the inputs move on
(00_scope.md R5, R10; 44_session.md R150). -/
def step (s : State) : Host.Outcome State Fault Refusal := finish (fire s.rule s.beginCycle)

/-- `s` with the instruction of a table row's word where the next step runs it: a command at the port of an idle
block, or a frame in BUF in its U_CHECK cycle (log 11). -/
def State.withFetchWord (s : State) (nbits w : Nat) : State :=
  if nbits = 256 then s.placeFrame (bufOfWord (BitVec.ofNat 256 w))
  else s.placeCommand (commandOp (BitVec.ofNat 68 w)) (commandArg0 (BitVec.ofNat 68 w)) (commandArg1 (BitVec.ofNat 68 w))

end Sys2Proof.Machine
end

