-- ==== Sys2Proof/Machine/Outputs.lean ====
section
/-! DEFINITION. The output ports of a cycle: what the block can be observed by (00_scope.md R9, R11). -/

namespace Sys2Proof.Machine

/-- The output ports (00_scope.md R9). -/
structure Outputs where
  cmdReady : Bool
  rxPop : Bool
  lineEn : Bool
  lineRst : Bool
  rd : Vector Half 12
  reportStb : Bool
  doneStb : Bool
  result : BitVec 2
  evChk : Bool
  stCst : BitVec 2
  stSst : BitVec 3
  stUst : BitVec 4
  stCancel : Bool
  stGot : Bool
  deriving DecidableEq, Repr

/-- `cmd_ready`: the block accepts a command this cycle. It equals `busy == 0`, a function of the registered state alone
(00_scope.md R9, R11; 10_state.md R26; 70_reset_and_hazards.md R226). -/
def State.cmdReady (s : State) : Bool := !s.busy

/-- The level of a port that a reset cycle forces to 0 (70_reset_and_hazards.md R210): of the level outputs, `cmd_ready`
alone (log 6). -/
def State.gateByReset (s : State) (level : Bool) : Bool := level && !s.ports.rst

/-- The outputs of the cycle that takes `s` to `t`: the level outputs show the registers at its start, the strobes
what its rule set (00_scope.md R11, 10_state.md R38); a reset cycle shows `cmd_ready` = 0 and no strobe
(70_reset_and_hazards.md R210). -/
def cycleOutputs (s t : State) : Outputs :=
  { cmdReady := s.gateByReset s.cmdReady
    rxPop := t.rxPop
    lineEn := s.lineEn
    lineRst := s.lineRst
    rd := s.rd
    reportStb := t.reportStb
    doneStb := t.doneStb
    result := s.res.code
    evChk := t.evChk
    stCst := s.cst.code
    stSst := s.sst.code
    stUst := s.ust.code
    stCancel := s.cancel
    stGot := s.got }

end Sys2Proof.Machine
end

