-- ==== Sys2Proof/Safety.lean ====
section
/-! DEFINITION. The terms claims use: runs of several cycles, the inputs ahead, the rows and micro-states a state is
in, the invariants of a run, and the test-only encoder of a Reading. -/

namespace Sys2Proof.Machine

/-- `n` cycles, stopping at the first fault or refusal. -/
def runCycles : Nat → State → Answer
  | 0, s => .next s
  | n + 1, s =>
    match step s with
    | .next t => runCycles n t
    | .fault f => .fault f
    | .refused r => .refused r

/-- The input ports of the cycles ahead that the state lists, the coming cycle's first. -/
def State.portsAhead (s : State) : List Ports := s.ports :: s.upcoming.map EnvCycle.ports

/-- The coming `k` cycles are listed, and the ports of each satisfy `p`. -/
abbrev Ahead (k : Nat) (p : Ports → Bool) (s : State) : Prop :=
  k ≤ s.portsAhead.length ∧ (s.portsAhead.take k).all p = true

/-- No byte arrives in any of the `k` cycles after the coming one. -/
abbrev NoArrivals (k : Nat) (s : State) : Prop :=
  (s.upcoming.take k).all (fun e => e.arrivals.isEmpty) = true

/-- `rst` is 0. -/
def Ports.noReset (p : Ports) : Bool := !p.rst

/-- `rst` and `cancel_req` are 0. -/
def Ports.noCancel (p : Ports) : Bool := !p.rst && !p.cancelReq

/-- `rst` and `rx_fail` are 0. -/
def Ports.noFail (p : Ports) : Bool := !p.rst && !p.rxFail

/-- `rst`, `cancel_req` and `rx_fail` are 0. -/
def Ports.calm (p : Ports) : Bool := !p.rst && !p.cancelReq && !p.rxFail

/-- A busy block in micro-state `u`, in a cycle without `rst` (44_session.md R150 cases 3 and 4). -/
abbrev Running (u : Ust) (s : State) : Prop := s.ports.rst = false ∧ s.busy = true ∧ s.ust = u

/-- An idle block, in a cycle without `rst`, with a command of opcode `op` at its port (30_encoding.md R92). -/
abbrev Offered (op : BitVec 4) (s : State) : Prop :=
  s.ports.rst = false ∧ s.busy = false ∧ s.ust = .idle ∧ s.ports.cmdValid = true ∧ s.ports.cmdOp = op

/-- The frame of the test-only encoder: the marker, two header fields, twelve fields and the sum of those thirty
bytes (41_decoder.md R106 c). -/
def encodeReading (fields : Vector Half 12) (h0 h1 : Half) : Frame :=
  { mark0 := mark0Byte, mark1 := mark1Byte, hdr0 := h0, hdr1 := h1, rd := fields
    chk := checksum (Frame.toBytes ⟨mark0Byte, mark1Byte, h0, h1, fields, 0⟩) }

/-- A candidate is gathered in order: `cnt` bytes of it stand in BUF, the marker first, and only a busy block gathers
(10_state.md R23, R24). -/
abbrev FrameInv (s : State) : Prop :=
  (s.busy = false → s.ust = .idle) ∧
  s.cnt ≤ 32 ∧
  (s.ust = .hunt → s.cnt = 0) ∧
  (s.ust = .mark2 → s.cnt = 1 ∧ s.buf[0] = mark0Byte) ∧
  (s.ust = .body → 2 ≤ s.cnt ∧ s.cnt ≤ 31 ∧ s.buf[0] = mark0Byte ∧ s.buf[1] = mark1Byte) ∧
  (s.ust = .check → s.cnt = 32 ∧ s.buf[0] = mark0Byte ∧ s.buf[1] = mark1Byte)

/-- The lines and the controller state agree, and an absent line keeps its reset level (10_state.md R36, R37;
43_controller.md R130, R136). -/
abbrev LineInv (s : State) : Prop :=
  (s.par.hasEn = false → s.lineEn = false ∧ (s.cst = .suspended ∨ s.cst = .resetting)) ∧
  (s.par.hasRst = false → s.lineRst = true ∧ s.cst ≠ .resetting) ∧
  (s.lineRst = false ↔ s.ust = .rsten ∨ s.ust = .settle) ∧
  (s.cst = .resetting ↔ s.ust = .rsten ∨ s.ust = .settle) ∧
  (s.ust = .settle → s.par.hasEn = true → s.lineEn = true) ∧
  (s.cst = .enabled → s.lineEn = true) ∧
  (s.cst = .disabled → s.lineEn = false) ∧
  (s.cst = .suspended → s.lineEn = false)

/-- The prescaler counts within a millisecond, and a fixed window has at most 100 ms left (10_state.md R35,
60_exceptions.md R195, R198). -/
abbrev TimerInv (s : State) : Prop :=
  s.pre < s.par.nMs ∧ (s.ust = .settle ∨ s.ust = .mark2 ∨ s.ust = .body → s.tmr ≤ 100)

/-- The sequencer is at a row its history allows: an idle block at row 0, a receive before the successor of a RECV row,
and the sleep rows 25 and 26 only when `sleep_period > 0` (10_state.md R25; 44_session.md R151, R162). -/
abbrev SequencerInv (s : State) : Prop :=
  (s.busy = false → s.upc = 0 ∧ s.ust = .idle) ∧
  (s.ust = .hunt ∨ s.ust = .mark2 ∨ s.ust = .body ∨ s.ust = .check → s.upc = 0 ∨ s.upc = 13 ∨ s.upc = 22) ∧
  (s.upc = 25 ∨ s.upc = 26 → s.a0 < s.a1)

/-- What the finalizer row leaves: the session is DONE and the enable line, if present, is low (44_session.md R163). -/
def State.finalized (s : State) : Bool :=
  s.sst = .done && s.ust = .idle && (!s.par.hasEn || (!s.lineEn && s.cst = .disabled))

/-- A running session is in its own rows, or at FIN with its finalizer done (44_session.md R151, R163). -/
abbrev FinalizerInv (s : State) : Prop :=
  (s.busy = true → s.opL = 6 → (7 ≤ s.upc.val ∧ s.upc.val ≤ 15) ∨ (s.upc = 0 ∧ s.finalized = true)) ∧
  (s.busy = true → s.opL = 7 → 16 ≤ s.upc.val ∨ (s.upc = 0 ∧ s.finalized = true))

/-- A safe cycle ends in a next state. -/
abbrev SafeCycle (s : State) : Prop := ∃ t, step s = .next t

end Sys2Proof.Machine
end

