-- ==== Sys2Proof/WellFormed.lean ====
section
/-! DEFINITION. Which instructions the encodings of 30_encoding.md can name. -/

namespace Sys2Proof

/-- A command is well formed whatever its arguments (30_encoding.md R87); a frame must begin with the
marker, the match and mask of its table row (R81). No other field of a frame has a reserved value (R93). -/
def Instr.wellFormed : Instr → Bool
  | .frame f => decide (f.Mark0Ok ∧ f.Mark1Ok)
  | .reset _ _ | .enable _ _ | .disable _ _ | .warmup _ _ | .receive _ _ | .oneshot _ _ | .monitor _ _ => true
  | .reserved0 _ _ | .reserved8 _ _ | .reserved9 _ _ | .reserved10 _ _ | .reserved11 _ _ => true
  | .reserved12 _ _ | .reserved13 _ _ | .reserved14 _ _ | .reserved15 _ _ => true

end Sys2Proof
end

