-- ==== Sys2Proof/Certificates/Slice0/Obligations.lean ====
section
/-! DEFINITION. The statements for the provers. Each docstring names the rules of spec/ it formalises.
`s.beginCycle` is `s` with the strobes of the cycle before lowered, and `State.endCycle` is what ends every cycle: the
statement StepRunsTheDecodedInstruction spells it out. -/

open Sys2Proof Sys2Proof.Machine

/-! ### Encodings -/

/-- Words written out from 30_encoding.md R80, R86, R90, R95: the example of R95, an ENABLE with unused arguments, the
reserved opcode 9, and the frame f1 of 95_test_vectors.md. The fifth is f1 with its second byte 4E: without the marker
4D there (R81) it decodes to nothing. -/
def Obligations.KnownWordsDecode : Prop :=
  decodeTableWord 72 0x70000EA6000007530 = some (.monitor 30000 60000) ∧
  decodeTableWord 72 0x2000000010000000A = some (.enable 10 1) ∧
  decodeTableWord 72 0x90000000000000000 = some (.reserved9 0 0) ∧
  decodeTableWord 256 0x424D001C0000000100020003000400050006000700080009000A000B000C00F9 =
    some (.frame ⟨0x42, 0x4D, 0x001C, 0, #v[1, 2, 3, 4, 5, 6, 7, 8, 9, 10, 11, 12], 0x00F9⟩) ∧
  decodeTableWord 256 0x424E001C0000000100020003000400050006000700080009000A000B000C00F9 = none

/-- Decoding an encoded well-formed instruction gives it back: no bit of an encoding is dropped (30_encoding.md R80, R86). -/
def Obligations.EncodedInstructionsDecode : Prop :=
  ∀ i : Instr, i.wellFormed = true → decode (encode i) = .ok i

/-- Bytes that decode are the encoding of what they decode to, which is well formed: each word has one meaning
(30_encoding.md R80, R81, R86, R90). -/
def Obligations.DecodedBytesEncodeBack : Prop :=
  ∀ (bs : List Byte) (i : Instr), decode bs = .ok i → encode i = bs ∧ i.wellFormed = true

/-- Every 68-bit command word is some command (30_encoding.md R86, R90, R91), by its opcode and its two arguments, and every
32 bytes that begin with the marker (R81) are the frame of those bytes (R80); nine bytes with a higher bit set, 32 bytes
without the marker, and any other number of bytes (R94) are rejected by name. -/
def Obligations.DecoderRejectsByName : Prop :=
  (∀ op arg0 arg1, decode (commandBytes op arg0 arg1) = .ok (decodeCommand op arg0 arg1)) ∧
  (∀ b : Vector Byte 32, b[0] = 0x42 → b[1] = 0x4D → decode b.toList = .ok (.frame (Frame.ofBuf b))) ∧
  (∀ bs : List Byte, bs.length = 9 → 2 ^ 68 ≤ natOfBytes bs → decode bs = .error .padding) ∧
  (∀ b : Vector Byte 32, ¬(b[0] = 0x42 ∧ b[1] = 0x4D) → decode b.toList = .error .marker) ∧
  (∀ bs : List Byte, bs.length ≠ 9 → bs.length ≠ 32 → decode bs = .error (.length bs.length))

/-! ### DECODE -/

/-- 41_decoder.md R101, R102, R103: `valid` holds exactly when the sum of bytes 0 to 29 modulo 65536 is the big-endian
number of bytes 30 and 31; the sum is at most 7650, so a frame whose byte 30 is above 0x1D is always Invalid. -/
def Obligations.DecodeComparesTheSums : Prop :=
  ∀ b : Vector Byte 32,
    ((decodeBuf b).1 = true ↔ (∑ k : Fin 30, b[k.val].toNat) % 65536 = b[30].toNat * 256 + b[31].toNat) ∧
    (∑ k : Fin 30, b[k.val].toNat) ≤ 7650 ∧
    (0x1D < b[30].toNat → (decodeBuf b).1 = false)

/-- 41_decoder.md R104: field j is bytes 6 + 2j and 7 + 2j, the first the more significant. -/
def Obligations.DecodeReadsTheFields : Prop :=
  ∀ (b : Vector Byte 32) (j : Fin 12),
    (decodeBuf b).2[j].toNat = b[6 + 2 * j.val].toNat * 256 + b[7 + 2 * j.val].toNat

/-- 41_decoder.md R106 c: a Reading encoded into a frame and decoded is the Reading, whatever the header fields. -/
def Obligations.EncodedReadingDecodes : Prop :=
  ∀ (fields : Vector Half 12) (h0 h1 : Half), decodeBuf (encodeReading fields h0 h1).toBuf = (true, fields)

/-- 41_decoder.md R106 d: a valid frame with any one byte of offsets 0 to 29 changed is Invalid, and so is one with only
the checksum field changed. -/
def Obligations.OneChangedByteIsInvalid : Prop :=
  ∀ b : Vector Byte 32, (decodeBuf b).1 = true →
    (∀ (k : Nat) (h : k < 30) (v : Byte), v ≠ b[k] → (decodeBuf (b.set k v)).1 = false) ∧
    (∀ x y : Byte, ¬(x = b[30] ∧ y = b[31]) → (decodeBuf ((b.set 30 x).set 31 y)).1 = false)

/-- 42_synchronizer.md R115: the U_CHECK cycle. A frame whose checksum matches loads its twelve fields into RD, sets `got`
and ends the receive with OK; any other pulses `ev_chk` and the hunt resumes. Nothing else changes and no input is
looked at; the step at U_CHECK runs this on BUF. The first clause is the model's: that the meaning of FRAME is the U_CHECK
cycle (log 3), and that it is the same in every other state (log 13). -/
def Obligations.FrameCycleLoadsOrDiscards : Prop :=
  (∀ (f : Frame) (s : State), exec (.frame f) s =
    if checksum f.toBytes = f.chk then .next { s with rd := f.rd, got := true, res := .ok, ust := .idle }
    else .next { s with evChk := true, cnt := 0, ust := .hunt }) ∧
  (∀ s : State, Running .check s →
    step s =
      if (decodeBuf s.buf).1 then
        .next (State.endCycle { s.beginCycle with rd := (decodeBuf s.buf).2, got := true, res := .ok, ust := .idle })
      else .next (State.endCycle { s.beginCycle with evChk := true, cnt := 0, ust := .hunt }))

/-! ### A step, and the acceptance of commands -/

/-- 44_session.md R150: in a cycle without `rst`, when the command at the port of an idle block, or the candidate in BUF
in the U_CHECK cycle, decodes to `i`, the step is `exec i` from the state with its strobes lowered, followed by the end
of the cycle: the cancellation flag takes the request (10_state.md R28) and the inputs of the next cycle come in. In the
U_CHECK cycle DECODE is run on BUF whether or not the marker stands there (41_decoder.md R105). -/
def Obligations.StepRunsTheDecodedInstruction : Prop :=
  (∀ (s : State) (i : Instr), s.ports.rst = false →
    ((s.busy = false ∧ s.ports.cmdValid = true ∧
        decode (commandBytes s.ports.cmdOp s.ports.cmdArg0 s.ports.cmdArg1) = .ok i) ∨
      (s.busy = true ∧ s.ust = .check ∧ decode s.buf.toList = .ok i)) →
    step s = match exec i s.beginCycle with
      | .next u => .next { u with
          cancel := u.cancel || s.ports.cancelReq
          ports := s.nextEnv.ports
          rxq := u.rxq ++ s.nextEnv.arrivals
          upcoming := s.upcoming.tail
          cycle := s.cycle + 1 }
      | .fault f => .fault f
      | .refused r => .refused r) ∧
  (∀ s : State, Running .check s → step s = finish (exec (.frame (Frame.ofBuf s.buf)) s.beginCycle))

/-- 30_encoding.md R92; 43_controller.md R141 to R144; 42_synchronizer.md R110: the five primitive commands, taken by an
idle block: the command is latched, `got` cleared, the result OK, and the sequencer set to the entry row. Nothing else
changes. -/
def Obligations.PrimitiveCommandsAreAccepted : Prop :=
  ∀ (arg0 arg1 : Word) (s : State), s.busy = false →
    exec (.reset arg0 arg1) s =
      .next { s with busy := true, opL := 1, a0 := arg0, a1 := arg1, got := false, res := .ok, upc := 1 } ∧
    exec (.enable arg0 arg1) s =
      .next { s with busy := true, opL := 2, a0 := arg0, a1 := arg1, got := false, res := .ok, upc := 2 } ∧
    exec (.disable arg0 arg1) s =
      .next { s with busy := true, opL := 3, a0 := arg0, a1 := arg1, got := false, res := .ok, upc := 3 } ∧
    exec (.warmup arg0 arg1) s =
      .next { s with busy := true, opL := 4, a0 := arg0, a1 := arg1, got := false, res := .ok, upc := 4 } ∧
    exec (.receive arg0 arg1) s =
      .next { s with busy := true, opL := 5, a0 := arg0, a1 := arg1, got := false, res := .ok, upc := 6 }

/-- 30_encoding.md R92; 44_session.md R155, R160, R161: the two session commands, taken by an idle block: as the primitive
ones, and the session state is INIT. Nothing else changes. -/
def Obligations.SessionCommandsAreAccepted : Prop :=
  ∀ (arg0 arg1 : Word) (s : State), s.busy = false →
    exec (.oneshot arg0 arg1) s =
      .next { s with
        busy := true, opL := 6, a0 := arg0, a1 := arg1, got := false, res := .ok, upc := 7, sst := .init } ∧
    exec (.monitor arg0 arg1) s =
      .next { s with
        busy := true, opL := 7, a0 := arg0, a1 := arg1, got := false, res := .ok, upc := 16, sst := .init }

/-- 30_encoding.md R91: a reserved opcode, taken by an idle block: latched like any other command, `got` cleared, the
result ILLEGAL, and the sequencer set to FIN. Nothing else changes. -/
def Obligations.ReservedCommandsAreAccepted : Prop :=
  ∀ (arg0 arg1 : Word) (s : State), s.busy = false →
    let taken (op : BitVec 4) : Answer :=
      .next { s with busy := true, opL := op, a0 := arg0, a1 := arg1, got := false, res := .illegal, upc := 0 }
    exec (.reserved0 arg0 arg1) s = taken 0 ∧ exec (.reserved8 arg0 arg1) s = taken 8 ∧
    exec (.reserved9 arg0 arg1) s = taken 9 ∧ exec (.reserved10 arg0 arg1) s = taken 10 ∧
    exec (.reserved11 arg0 arg1) s = taken 11 ∧ exec (.reserved12 arg0 arg1) s = taken 12 ∧
    exec (.reserved13 arg0 arg1) s = taken 13 ∧ exec (.reserved14 arg0 arg1) s = taken 14 ∧
    exec (.reserved15 arg0 arg1) s = taken 15

/-- 70_reset_and_hazards.md R216: a command offered while busy has no effect and leaves no trace: `exec` gives back the
state, which is the model's (log 13: no step runs a command in a busy block), and the step of a busy block does not
depend on the command port at all. -/
def Obligations.BusyBlockIgnoresTheCommandPort : Prop :=
  ∀ (s : State), s.busy = true →
    (∀ op arg0 arg1, exec (decodeCommand op arg0 arg1) s = .next s) ∧
    (∀ (v : Bool) (op : BitVec 4) (arg0 arg1 : Word),
      step { s with ports := { s.ports with cmdValid := v, cmdOp := op, cmdArg0 := arg0, cmdArg1 := arg1 } } = step s)

/-- 30_encoding.md R92, on the step: an idle block without `rst` takes the command at its port in one cycle, shown by
`cmd_ready` = 1; the entry row and the result go by the opcode's number (R90, R91); with no command at the port nothing
happens; a busy block has `cmd_ready` = 0 and its cycle is the same whatever the command inputs are. The first row of the
command executes in the next cycle, and the FIN cycle is still busy. -/
def Obligations.AcceptanceCycle : Prop :=
  ∀ s : State, s.ports.rst = false →
    (∀ t, (cycleOutputs s t).cmdReady = s.cmdReady) ∧
    (s.busy = true → s.cmdReady = false ∧ ∀ (v : Bool) (op : BitVec 4) (arg0 arg1 : Word),
      step { s with ports := { s.ports with cmdValid := v, cmdOp := op, cmdArg0 := arg0, cmdArg1 := arg1 } } = step s) ∧
    (s.busy = false → s.cmdReady = true) ∧
    (s.busy = false → s.ports.cmdValid = false → step s = .next s.beginCycle.endCycle) ∧
    (s.busy = false → s.ports.cmdValid = true →
      let op := s.ports.cmdOp
      let assigned : Bool := 1 ≤ op.toNat && op.toNat ≤ 7
      step s = .next (State.endCycle { s.beginCycle with
        busy := true, opL := op, a0 := s.ports.cmdArg0, a1 := s.ports.cmdArg1, got := false
        res := if assigned then .ok else .illegal
        upc := if assigned then ([0, 1, 2, 3, 4, 6, 7, 16] : List RowNum).getD op.toNat 0 else 0
        sst := if op = 6 ∨ op = 7 then .init else s.sst })) ∧
    (s.busy = false → s.ust = .idle → s.ports.cmdValid = true →
      ∃ t, step s = .next t ∧ (t.ports.rst = false → Running .idle t)) ∧
    (∀ t, step s = .next t → t.doneStb = true → s.cmdReady = false ∧ t.busy = false)

/-! ### Whole-machine rules -/

/-- 70_reset_and_hazards.md R210 with 10_state.md R41: a cycle with `rst` = 1, from any state: every register the reset
table gives a value takes it, the strobes are 0, `cmd_ready` is 0, no byte is consumed, and a cancellation request is
lost. `cmd_ready` = 0 follows R210; R9 and R26, which make it `busy == 0` alone, would show 1 for an idle block (log 6).
(`a0`, `a1`, BUF and RD become unspecified: nothing is said of them.) -/
def Obligations.ResetCycleFromAnyState : Prop :=
  ∀ s : State, s.ports.rst = true → ∃ t, step s = .next t ∧ (cycleOutputs s t).cmdReady = false ∧
    t.cst = .suspended ∧ t.lineEn = false ∧ t.lineRst = true ∧ t.sst = .init ∧ t.ust = .idle ∧ t.busy = false ∧
    t.upc = 0 ∧ t.opL = 0 ∧ t.cancel = false ∧ t.got = false ∧ t.res = .ok ∧ t.cnt = 0 ∧ t.tmr = 0 ∧ t.pre = 0 ∧
    t.rxPop = false ∧ t.reportStb = false ∧ t.doneStb = false ∧ t.evChk = false ∧
    t.rxq = s.rxq ++ s.nextEnv.arrivals ∧ t.par = s.par

/-- 10_state.md R28: in every cycle without `rst` the flag takes the request and keeps what it has; every rule reads the
registered flag, so a request changes nothing else in its own cycle; only reset clears it; it is shown on `st_cancel`. -/
def Obligations.CancelIsSticky : Prop :=
  (∀ s t : State, step s = .next t →
    (cycleOutputs s t).stCancel = s.cancel ∧
    (s.ports.rst = false → t.cancel = (s.cancel || s.ports.cancelReq)) ∧
    (s.ports.rst = true → t.cancel = false)) ∧
  (∀ s t : State, s.ports.rst = false → step s = .next t →
    step { s with ports := { s.ports with cancelReq := true } } = .next { t with cancel := true })

/-- 10_state.md R21: in a cycle without `rst`, RD is written only by the U_CHECK cycle that finds the frame in BUF valid,
and then all twelve registers at once. -/
def Obligations.OnlyAValidCheckWritesRd : Prop :=
  ∀ s t : State, s.ports.rst = false → step s = .next t →
    (s.busy = true ∧ s.ust = .check ∧ (decodeBuf s.buf).1 = true ∧ t.rd = (decodeBuf s.buf).2 ∧ t.got = true) ∨
    (¬(s.busy = true ∧ s.ust = .check ∧ (decodeBuf s.buf).1 = true) ∧ t.rd = s.rd)

/-- 10_state.md R22, R27, R31, R32: no rule reads RD, `op_l`, `cst` or `sst`: two states that differ only in these step to
states that differ only in these. -/
def Obligations.StatusRegistersAreNeverRead : Prop :=
  ∀ (s t : State) (rd : Vector Half 12) (opL : BitVec 4) (cst : Cst) (sst : Sst), step s = .next t →
    ∃ t' : State, step { s with rd := rd, opL := opL, cst := cst, sst := sst } = .next t' ∧
      t = { t' with rd := t.rd, opL := t.opL, cst := t.cst, sst := t.sst }

/-- 10_state.md R34 with 70_reset_and_hazards.md R218 and 00_scope.md R7: in a cycle without `rst`, the latched opcode and
arguments change only when a command is accepted, and the parameters never change. -/
def Obligations.ArgumentsAreSampledOnce : Prop :=
  ∀ s t : State, step s = .next t → t.par = s.par ∧
    (s.ports.rst = false → ¬(s.busy = false ∧ s.ports.cmdValid = true) → t.a0 = s.a0 ∧ t.a1 = s.a1 ∧ t.opL = s.opL) ∧
    (s.ports.rst = false → s.busy = false → s.ports.cmdValid = true →
      t.a0 = s.ports.cmdArg0 ∧ t.a1 = s.ports.cmdArg1 ∧ t.opL = s.ports.cmdOp)

/-- 20_memory.md R63, R64, R65: a cycle with `rx_pop` = 1 had a byte at the head and no `rx_fail`, and removes exactly that
byte; in every other cycle the buffered bytes stay. New bytes come in behind. Only U_HUNT, U_MARK2, U_BODY and U_DRAIN
pop (R60). -/
def Obligations.BytesLeaveTheStreamOnlyByPops : Prop :=
  ∀ s t : State, step s = .next t →
    (t.rxPop = true → s.ports.rst = false ∧ s.busy = true ∧ s.ports.rxFail = false ∧
      (s.ust = .hunt ∨ s.ust = .mark2 ∨ s.ust = .body ∨ s.ust = .drain) ∧
      ∃ b rest, s.rxq = b :: rest ∧ t.rxq = rest ++ s.nextEnv.arrivals) ∧
    (t.rxPop = false → t.rxq = s.rxq ++ s.nextEnv.arrivals)

/-- 43_controller.md R136: with `HAS_RST` false no rule ever writes `line_rst`, and an RST row does nothing but advance
`upc`; with `HAS_EN` false no rule ever writes `line_en`, and EN and DIS rows do nothing but advance `upc` (and label
the session, 44_session.md R155). -/
def Obligations.AbsentLinesAreNeverDriven : Prop :=
  ∀ s t : State, s.ports.rst = false → step s = .next t →
    (s.par.hasRst = false → t.lineRst = s.lineRst) ∧
    (s.par.hasEn = false → t.lineEn = s.lineEn) ∧
    (Running .idle s →
      ((rowAt s.upc).op = .rst ∧ s.par.hasRst = false) ∨
        (((rowAt s.upc).op = .en ∨ (rowAt s.upc).op = .dis) ∧ s.par.hasEn = false) →
      t = State.endCycle { s.beginCycle with upc := (rowAt s.upc).next, sst := (rowAt s.upc).sst.getD s.sst })

/-- 20_memory.md R60 with 42_synchronizer.md R114: the machine never refuses, and it stops with a fault in exactly one
case, which no run reaches: U_BODY storing a byte at a frame offset above 31. -/
def Obligations.StepStopsOnlyAtAMissingOffset : Prop :=
  ∀ s : State, (∀ r, step s ≠ .refused r) ∧
    (∀ f, step s = .fault f ↔
      Running .body s ∧ s.ports.rxFail = false ∧ s.rxq ≠ [] ∧ 32 ≤ s.cnt.toNat ∧ f = .frameOffset)

/-! ### The synchronizer -/

/-- 42_synchronizer.md R111: the RECV rows 6, 12 and 21 start a receive; rows 12 and 21 label the session READING. -/
def Obligations.RecvRowStartsAReceive : Prop :=
  ∀ (s : State) (next : RowNum) (label : Sst), Running .idle s →
    (s.upc, next, label) ∈ ([(6, 0, s.sst), (12, 13, .reading), (21, 22, .reading)] : List (RowNum × RowNum × Sst)) →
    step s = .next (State.endCycle { s.beginCycle with sst := label, got := false, cnt := 0, ust := .hunt, upc := next })

/-- 42_synchronizer.md R112: U_HUNT. -/
def Obligations.HuntCycle : Prop :=
  ∀ s : State, Running .hunt s →
    step s = .next (State.endCycle (
      if s.cancel then { s.beginCycle with got := false, res := .cancelled, cnt := 0, ust := .idle }
      else if s.ports.rxFail then { s.beginCycle with got := false, res := .streamFail, cnt := 0, ust := .idle }
      else match s.rxq with
        | b :: rest =>
          if b = 0x42 then
            { s.beginCycle with
              rxq := rest, rxPop := true, buf := s.buf.set 0 b, cnt := 1, tmr := 100, pre := 0, ust := .mark2 }
          else { s.beginCycle with rxq := rest, rxPop := true }
        | [] => s.beginCycle))

/-- 42_synchronizer.md R113: U_MARK2. -/
def Obligations.MarkCycle : Prop :=
  ∀ s : State, Running .mark2 s →
    step s = .next (State.endCycle (
      if s.ports.rxFail then { s.beginCycle with got := false, res := .streamFail, cnt := 0, ust := .idle }
      else match s.rxq with
        | b :: rest =>
          if b = 0x4D then
            if s.cancel then
              { s.beginCycle with
                rxq := rest, rxPop := true, got := false, res := .cancelled, cnt := 0, ust := .idle }
            else
              { s.beginCycle with
                rxq := rest, rxPop := true, buf := s.buf.set 1 b, cnt := 2, tmr := 100, pre := 0, ust := .body }
          else { s.beginCycle with rxq := rest, rxPop := true, cnt := 0, ust := .hunt }
        | [] => if s.tmr = 0 then { s.beginCycle with cnt := 0, ust := .hunt } else s.beginCycle.tick))

/-- 42_synchronizer.md R114: U_BODY, where `cnt` is 2 to 31: a byte is stored at offset `cnt`, and the timer advances in
the cycles that pop as in those that wait. -/
def Obligations.BodyCycle : Prop :=
  ∀ s : State, Running .body s → ∀ (_ : 2 ≤ s.cnt.toNat) (h : s.cnt.toNat ≤ 31),
    step s = .next (State.endCycle (
      if s.ports.rxFail then { s.beginCycle with got := false, res := .streamFail, cnt := 0, ust := .idle }
      else match s.rxq with
        | b :: rest =>
          State.tick { s.beginCycle with
            rxq := rest, rxPop := true, buf := s.buf.set s.cnt.toNat b (by omega)
            cnt := BitVec.ofNat 6 (s.cnt.toNat + 1)
            ust := if s.cnt.toNat + 1 = 32 then .check else .body }
        | [] => if s.tmr = 0 then { s.beginCycle with cnt := 0, ust := .hunt } else s.beginCycle.tick))

/-- 42_synchronizer.md R117, for both states: with `load(100)` just done and no byte and no failure, the state is held,
unexpired, while fewer than 100 × `N_MS` cycles have run; after them it has expired and the state is still held, and the
next cycle, with still no byte, goes back to the hunt. -/
def Obligations.ShortWindowClosesInTime : Prop :=
  ∀ (s : State) (u : Ust), u = .mark2 ∨ u = .body → Running u s → s.tmr = 100 → s.pre = 0 → s.rxq = [] →
    Ahead (100 * s.par.nMs + 1) Ports.noFail s →
    (∀ k, k < 100 * s.par.nMs → NoArrivals k s → ∃ t, runCycles k s = .next t ∧ t.ust = u ∧ t.tmr ≠ 0) ∧
    (NoArrivals (100 * s.par.nMs) s →
      ∃ t, runCycles (100 * s.par.nMs) s = .next t ∧ t.ust = u ∧ t.tmr = 0 ∧
        ∃ t', runCycles (100 * s.par.nMs + 1) s = .next t' ∧ t'.ust = .hunt ∧ t'.cnt = 0 ∧ t'.rxPop = false)

/-- 70_reset_and_hazards.md R214: from the hunt, the stream 42 42 4D starts no frame: all three bytes are consumed and the
hunt goes on. -/
def Obligations.StrayMarkerByteHidesAFrame : Prop :=
  ∀ (s : State) (rest : List Byte), Running .hunt s → s.cancel = false → s.rxq = 0x42 :: 0x42 :: 0x4D :: rest →
    Ahead 3 Ports.calm s →
    ∃ t later, runCycles 3 s = .next t ∧ t.ust = .hunt ∧ t.cnt = 0 ∧ t.busy = true ∧ t.rd = s.rd ∧ t.got = s.got ∧
      t.rxq = rest ++ later

/-! ### The controller -/

/-- 43_controller.md R131, R132: the RST rows 1, 7, 16 and 32, and U_RSTEN. -/
def Obligations.ResetPulseBegins : Prop :=
  (∀ (s : State) (next : RowNum) (label : Sst), Running .idle s →
    (s.upc, next, label) ∈
      ([(1, 0, s.sst), (7, 8, s.sst), (16, 17, s.sst), (32, 33, .warming)] : List (RowNum × RowNum × Sst)) →
    step s = .next (State.endCycle (
      if s.par.hasRst then
        { s.beginCycle with sst := label, lineRst := false, cst := .resetting, ust := .rsten, upc := next }
      else { s.beginCycle with sst := label, upc := next }))) ∧
  (∀ s : State, Running .rsten s →
    step s = .next (State.endCycle { s.beginCycle with
      lineEn := if s.par.hasEn then true else s.lineEn, tmr := 100, pre := 0, ust := .settle }))

/-- 43_controller.md R133: U_SETTLE ends the pulse when the timer has expired, and only then; `cancel` is not examined. (A
block is in U_SETTLE only with a reset line: LinesAgreeWithTheController.) From the RST row to the end, the pulse is
100 × `N_MS` + 2 cycles long, and no request, byte or failure shortens it. -/
def Obligations.ResetPulseHasItsLength : Prop :=
  (∀ s : State, Running .settle s → s.par.hasRst = true →
    step s = .next (State.endCycle (
      if s.tmr = 0 then
        { s.beginCycle with lineRst := true, cst := if s.par.hasEn then .enabled else .suspended, ust := .idle }
      else s.beginCycle.tick))) ∧
  (∀ s : State, Running .idle s → (rowAt s.upc).op = .rst → s.par.hasRst = true →
    Ahead (100 * s.par.nMs + 3) Ports.noReset s →
    (∀ k, 1 ≤ k → k ≤ 100 * s.par.nMs + 2 → ∃ t, runCycles k s = .next t ∧ t.lineRst = false ∧ t.cst = .resetting ∧
      (2 ≤ k → s.par.hasEn = true → t.lineEn = true)) ∧
    ∃ t, runCycles (100 * s.par.nMs + 3) s = .next t ∧ t.lineRst = true ∧ t.ust = .idle ∧
      t.cst = (if s.par.hasEn then .enabled else .suspended))

/-- 43_controller.md R134, R135: the EN rows 2, 8, 17 and 33 and the DIS rows 3, 15, 25 and 31. -/
def Obligations.EnableAndDisableRows : Prop :=
  (∀ (s : State) (next : RowNum), Running .idle s →
    (s.upc, next) ∈ ([(2, 0), (8, 9), (17, 18), (33, 18)] : List (RowNum × RowNum)) →
    step s = .next (State.endCycle (
      if s.par.hasEn then { s.beginCycle with lineEn := true, cst := .enabled, upc := next }
      else { s.beginCycle with upc := next }))) ∧
  (∀ (s : State) (next : RowNum) (label : Sst), Running .idle s →
    (s.upc, next, label) ∈
      ([(3, 0, s.sst), (15, 0, .done), (25, 26, s.sst), (31, 0, .done)] : List (RowNum × RowNum × Sst)) →
    step s = .next (State.endCycle (
      if s.par.hasEn then { s.beginCycle with sst := label, lineEn := false, cst := .disabled, upc := next }
      else { s.beginCycle with sst := label, upc := next })))

/-- 43_controller.md R137: the WAIT rows 4, 10, 18 (of `a0`), 26 (of `a1 - a0`, formed only when `a1 > a0`) and 28 (of
`a1`). -/
def Obligations.WaitRowsStartAWait : Prop :=
  ∀ (s : State) (next : RowNum) (label : Sst) (v : Word), Running .idle s → (s.upc = 26 → s.a0 < s.a1) →
    (s.upc, next, label, v) ∈
      ([(4, 5, s.sst, s.a0), (10, 11, s.sst, s.a0), (18, 19, .warming, s.a0),
        (26, 27, s.sst, BitVec.ofNat 32 (s.a1.toNat - s.a0.toNat)), (28, 29, s.sst, s.a1)] :
        List (RowNum × RowNum × Sst × Word)) →
    step s = .next (State.endCycle { s.beginCycle with sst := label, tmr := v, pre := 0, ust := .wait, upc := next })

/-- 43_controller.md R138: U_WAIT ends with CANCELLED in a cycle that finds the flag set, and otherwise when the timer has
expired. Without cancellation a wait of v ms started by a WAIT row in cycle k finds `expired` in cycle k + 1 + v × `N_MS`,
and the next row executes in cycle k + 2 + v × `N_MS`: here `s` is the state at the start of cycle k + 1. -/
def Obligations.WaitTakesItsTime : Prop :=
  (∀ s : State, Running .wait s →
    step s = .next (State.endCycle (
      if s.cancel then { s.beginCycle with res := .cancelled, ust := .idle }
      else if s.tmr = 0 then { s.beginCycle with ust := .idle }
      else s.beginCycle.tick))) ∧
  (∀ s : State, Running .wait s → s.pre = 0 → s.cancel = false →
    Ahead (s.tmr.toNat * s.par.nMs + 1) Ports.noCancel s →
    (∀ k, k ≤ s.tmr.toNat * s.par.nMs → ∃ t, runCycles k s = .next t ∧ t.ust = .wait ∧
      (t.tmr = 0 ↔ k = s.tmr.toNat * s.par.nMs)) ∧
    ∃ t, runCycles (s.tmr.toNat * s.par.nMs + 1) s = .next t ∧ t.ust = .idle ∧ t.upc = s.upc ∧ t.res = s.res)

/-- 43_controller.md R139: the DRAIN rows 5, 11 and 19, and a cycle of U_DRAIN: a byte is dropped while one is held and the
stream does not fail, and otherwise the drain ends; `cancel` is not examined, and neither BUF nor `cnt` is written. -/
def Obligations.DrainRowsAndCycle : Prop :=
  (∀ (s : State) (next : RowNum), Running .idle s →
    (s.upc, next) ∈ ([(5, 0), (11, 12), (19, 20)] : List (RowNum × RowNum)) →
    step s = .next (State.endCycle { s.beginCycle with ust := .drain, upc := next })) ∧
  (∀ s : State, Running .drain s →
    step s = .next (State.endCycle (match s.ports.rxFail, s.rxq with
      | false, _ :: rest => { s.beginCycle with rxq := rest, rxPop := true }
      | _, _ => { s.beginCycle with ust := .idle })))

/-! ### The sequencer -/

/-- 44_session.md R152: FIN. Its cycle shows `done_stb` and `result`, and `cmd_ready` is 1 from the next cycle on, at
the port unless that is a reset cycle (R210). -/
def Obligations.FinRow : Prop :=
  ∀ s : State, Running .idle s → s.upc = 0 →
    ∃ t, step s = .next t ∧ t = State.endCycle { s.beginCycle with busy := false, doneStb := true } ∧
      (cycleOutputs s t).doneStb = true ∧ (cycleOutputs s t).result = s.res.code ∧
      t.cmdReady = true ∧ (t.ports.rst = false → ∀ u, (cycleOutputs t u).cmdReady = true)

/-- 44_session.md R153: the branch rows, with the targets of R151. -/
def Obligations.BranchRows : Prop :=
  ∀ s : State, Running .idle s →
    (s.upc = 9 → step s = .next (State.endCycle { s.beginCycle with upc := if s.a0 = 0 then 12 else 10 })) ∧
    (s.upc = 13 → step s = .next (State.endCycle { s.beginCycle with upc := if s.got = false then 15 else 14 })) ∧
    (s.upc = 22 → step s = .next (State.endCycle { s.beginCycle with upc := if s.got = false then 31 else 23 })) ∧
    (s.upc = 24 → step s = .next (State.endCycle { s.beginCycle with
      sst := .cooling, upc := if s.a1.toNat ≤ s.a0.toNat then 28 else 25 })) ∧
    (∀ next, (s.upc, next) ∈ ([(20, 21), (27, 32), (29, 30)] : List (RowNum × RowNum)) →
      step s = .next (State.endCycle (
        if s.cancel then { s.beginCycle with res := .cancelled, upc := 31 } else { s.beginCycle with upc := next })))

/-- 44_session.md R154: the REPORT rows 14 and 23 and the NOP row 30; in the cycle of `report_stb` the outputs carry RD. -/
def Obligations.ReportAndNopRows : Prop :=
  ∀ s : State, Running .idle s →
    (s.upc = 14 → step s = .next (State.endCycle { s.beginCycle with sst := .reporting, reportStb := true, upc := 15 })) ∧
    (s.upc = 23 → step s = .next (State.endCycle { s.beginCycle with sst := .reporting, reportStb := true, upc := 24 })) ∧
    (s.upc = 30 → step s = .next (State.endCycle { s.beginCycle with sst := .warming, upc := 21 })) ∧
    (∀ t, step s = .next t → s.upc = 14 ∨ s.upc = 23 →
      (cycleOutputs s t).reportStb = true ∧ (cycleOutputs s t).rd = s.rd ∧ t.rd = s.rd)

/-- 00_scope.md R11 with 42_synchronizer.md R115 and 44_session.md R152, R154: `done_stb`, `report_stb` and `ev_chk` are 1 in
exactly the cycles in which FIN, a REPORT row, or the U_CHECK of an Invalid frame fires. -/
def Obligations.StrobesNameTheirRules : Prop :=
  ∀ s t : State, step s = .next t →
    (t.doneStb = true ↔ Running .idle s ∧ s.upc = 0) ∧
    (t.reportStb = true ↔ Running .idle s ∧ (s.upc = 14 ∨ s.upc = 23)) ∧
    (t.evChk = true ↔ Running .check s ∧ (decodeBuf s.buf).1 = false)

/-! ### The status outputs -/

/-- 10_state.md R38 with 00_scope.md R9: what the output ports of a cycle show. The level outputs show the registers at its
start, with the codes of R31, R32, R33 and 60_exceptions.md R182; `cmd_ready` is `busy == 0`, and at the port a
reset cycle forces it to 0 as 70_reset_and_hazards.md R210 says (log 6); the strobes are those its rule raised (00_scope.md
R11), which the model keeps in the state after it (log 15). -/
def Obligations.OutputsShowTheRegisters : Prop :=
  ∀ s t : State, let o := cycleOutputs s t
    (o.stCst = 0 ↔ s.cst = .suspended) ∧ (o.stCst = 1 ↔ s.cst = .resetting) ∧
    (o.stCst = 2 ↔ s.cst = .enabled) ∧ (o.stCst = 3 ↔ s.cst = .disabled) ∧
    (o.stSst = 0 ↔ s.sst = .init) ∧ (o.stSst = 1 ↔ s.sst = .warming) ∧ (o.stSst = 2 ↔ s.sst = .reading) ∧
    (o.stSst = 3 ↔ s.sst = .reporting) ∧ (o.stSst = 4 ↔ s.sst = .cooling) ∧ (o.stSst = 5 ↔ s.sst = .done) ∧
    (o.stUst = 0 ↔ s.ust = .idle) ∧ (o.stUst = 1 ↔ s.ust = .rsten) ∧ (o.stUst = 2 ↔ s.ust = .settle) ∧
    (o.stUst = 3 ↔ s.ust = .wait) ∧ (o.stUst = 4 ↔ s.ust = .drain) ∧ (o.stUst = 5 ↔ s.ust = .hunt) ∧
    (o.stUst = 6 ↔ s.ust = .mark2) ∧ (o.stUst = 7 ↔ s.ust = .body) ∧ (o.stUst = 8 ↔ s.ust = .check) ∧
    (o.result = 0 ↔ s.res = .ok) ∧ (o.result = 1 ↔ s.res = .cancelled) ∧
    (o.result = 2 ↔ s.res = .streamFail) ∧ (o.result = 3 ↔ s.res = .illegal) ∧
    o.stCancel = s.cancel ∧ o.stGot = s.got ∧ o.lineEn = s.lineEn ∧ o.lineRst = s.lineRst ∧ o.rd = s.rd ∧
    (s.cmdReady = true ↔ s.busy = false) ∧ (s.ports.rst = false → o.cmdReady = s.cmdReady) ∧
    (s.ports.rst = true → o.cmdReady = false) ∧ o.rxPop = t.rxPop ∧ o.reportStb = t.reportStb ∧ o.doneStb = t.doneStb ∧ o.evChk = t.evChk

/-- 10_state.md R29 to R33, R36, R37: over two cycles in a row, of which the first is not a reset cycle, each status output
keeps its value or the first cycle ran one of the rules that R29 to R33, R36 and R37 name as writers of its register.
After a reset cycle they show the values of the reset table (R41). -/
def Obligations.OutputsChangeOnlyByTheirRules : Prop :=
  ∀ s t u : State, step s = .next t → step t = .next u →
    let o := cycleOutputs s t
    let o' := cycleOutputs t u
    let accepted : Prop := s.busy = false ∧ s.ports.cmdValid = true
    let row (p : MicroOp → Prop) : Prop := Running .idle s ∧ p (rowAt s.upc).op
    let receiving : Prop := Running .hunt s ∨ Running .mark2 s ∨ Running .body s ∨ Running .check s
    (s.ports.rst = false →
      (o'.stCst = o.stCst ∨ row (fun m => m = .rst ∨ m = .en ∨ m = .dis) ∨ Running .settle s) ∧
      (o'.stSst = o.stSst ∨ (accepted ∧ (s.ports.cmdOp = 6 ∨ s.ports.cmdOp = 7)) ∨
        (Running .idle s ∧ ∃ label, (rowAt s.upc).sst = some label ∧ o'.stSst = label.code)) ∧
      (o'.stUst = o.stUst ∨ row (fun m => m = .rst ∨ (∃ v, m = .wait v) ∨ m = .drain ∨ m = .recv) ∨
        (s.busy = true ∧ s.ust ≠ .idle)) ∧
      (o'.lineEn = o.lineEn ∨ (s.par.hasEn = true ∧ (row (fun m => m = .en ∨ m = .dis) ∨ Running .rsten s))) ∧
      (o'.lineRst = o.lineRst ∨ (s.par.hasRst = true ∧ (row (fun m => m = .rst) ∨ Running .settle s))) ∧
      (o'.stGot = o.stGot ∨ accepted ∨ row (fun m => m = .recv) ∨ receiving) ∧
      (o'.result = o.result ∨ accepted ∨ row (fun m => ∃ target, m = .bcancel target) ∨ Running .wait s ∨ receiving)) ∧
    (s.ports.rst = true → o'.stCst = 0 ∧ o'.stSst = 0 ∧ o'.stUst = 0 ∧ o'.stCancel = false ∧ o'.stGot = false ∧
      o'.result = 0 ∧ o'.lineEn = false ∧ o'.lineRst = true)

/-! ### The timer -/

/-- 60_exceptions.md R195: after `load(v)` and c ticks, `tmr` is v - floor(c / `N_MS`) while that is positive, and the
timer has expired after exactly v × `N_MS` ticks, where it stays; ticks touch nothing but `tmr` and `pre`. The timer does
not run by itself: in a cycle without `rst` it stands still, or one of U_SETTLE, U_WAIT, U_MARK2 and U_BODY ticks it once,
or it is loaded, with 100 by U_RSTEN, U_HUNT or U_MARK2, or with its operand by a WAIT row (R198). -/
def Obligations.TimerCountsMilliseconds : Prop :=
  (∀ (v : Word) (c : Nat) (s : State),
    State.tick^[c] (s.load v) = { s with
      tmr := BitVec.ofNat 32 (v.toNat - c / s.par.nMs)
      pre := if c < v.toNat * s.par.nMs then c % s.par.nMs else 0 } ∧
    ((State.tick^[c] (s.load v)).expired = true ↔ v.toNat * s.par.nMs ≤ c)) ∧
  (∀ s t : State, s.ports.rst = false → step s = .next t →
    (t.tmr = s.tmr ∧ t.pre = s.pre) ∨
    ((Running .settle s ∨ Running .wait s ∨ Running .mark2 s ∨ Running .body s) ∧ t.tmr = s.tick.tmr ∧ t.pre = s.tick.pre) ∨
    ((Running .rsten s ∨ Running .hunt s ∨ Running .mark2 s) ∧ t.tmr = 100 ∧ t.pre = 0) ∨
    (Running .idle s ∧ t.pre = 0 ∧ ∃ o, (rowAt s.upc).op = .wait o ∧ t.tmr = o.value s))

/-! ### Invariants that every step keeps, and that they hold after reset -/

/-- 10_state.md R23, R24: a candidate frame is gathered in order, marker first, so that U_CHECK has 32 written bytes. -/
def Obligations.CandidateIsGatheredInOrder : Prop :=
  ∀ s t : State, FrameInv s → step s = .next t → FrameInv t

/-- The invariant of CandidateIsGatheredInOrder holds after reset, whatever the parameters. -/
def Obligations.ResetStateGathersNothing : Prop := ∀ p : Params, FrameInv (State.resetWith p)

/-- 42_synchronizer.md R114: from a state in which the candidate is gathered in order, every cycle ends in a next state. -/
def Obligations.GatheringNeverStops : Prop := ∀ s : State, FrameInv s → SafeCycle s

/-- 10_state.md R36, R37 and 43_controller.md R130, R136: the reset line is low exactly in U_RSTEN and U_SETTLE, which need
a reset line; the controller state says what the enable line is; an absent line keeps its reset level. -/
def Obligations.LinesAgreeWithTheController : Prop :=
  ∀ s t : State, LineInv s → step s = .next t → LineInv t

/-- The invariant of LinesAgreeWithTheController holds after reset, whatever the parameters. -/
def Obligations.ResetStateIdlesTheLines : Prop := ∀ p : Params, LineInv (State.resetWith p)

/-- 10_state.md R35 and 60_exceptions.md R198: the prescaler stays below `N_MS`, and a fixed window never has more than
100 ms left. -/
def Obligations.TimerStaysInItsRange : Prop :=
  ∀ s t : State, TimerInv s → step s = .next t → TimerInv t

/-- 10_state.md R25 and 44_session.md R151, R162: an idle block is at row 0, a receive returns to the row after its RECV
row, and the sleep rows are reached only when `a1 > a0`, so that `a1 - a0` does not wrap. -/
def Obligations.SleepPeriodIsPositiveWhereFormed : Prop :=
  ∀ s t : State, SequencerInv s → step s = .next t → SequencerInv t

/-- 44_session.md R163: a running session is in its own rows, or its finalizer row has run and FIN is next. -/
def Obligations.EveryExitRunsTheFinalizer : Prop :=
  ∀ s t : State, FinalizerInv s → step s = .next t → FinalizerInv t

/-- The invariants of the timer, the sequencer and the finalizer hold after reset, whatever the parameters. -/
def Obligations.ResetStateIsIdle : Prop :=
  ∀ p : Params, TimerInv (State.resetWith p) ∧ SequencerInv (State.resetWith p) ∧ FinalizerInv (State.resetWith p)

/-- 44_session.md R163: in the cycle in which a session command completes (`done_stb`), its state is DONE and the enable
line, if present, is low. -/
def Obligations.SessionsEndDisabled : Prop :=
  ∀ s t : State, FinalizerInv s → step s = .next t → t.doneStb = true → s.opL = 6 ∨ s.opL = 7 →
    t.sst = .done ∧ (s.par.hasEn = true → t.lineEn = false ∧ t.cst = .disabled)

/-! ### Commands run to their end -/

/-- 43_controller.md R142, R143: ENABLE and DISABLE drive the line, if present, in the first cycle after acceptance and
complete with OK in the second; nothing of the Reading, the reset line or the session changes. -/
def Obligations.EnableAndDisableRunToTheirEnd : Prop :=
  ∀ (s : State) (level : Bool), Offered (if level then 2 else 3) s → Ahead 3 Ports.noReset s →
    (∃ u, runCycles 2 s = .next u ∧ u.busy = true ∧ u.doneStb = false ∧
      u.lineEn = (if s.par.hasEn then level else s.lineEn) ∧
      u.cst = (if s.par.hasEn then (if level then .enabled else .disabled) else s.cst)) ∧
    ∃ t, runCycles 3 s = .next t ∧ t.busy = false ∧ t.doneStb = true ∧ t.res = .ok ∧
      t.lineEn = (if s.par.hasEn then level else s.lineEn) ∧
      t.cst = (if s.par.hasEn then (if level then .enabled else .disabled) else s.cst) ∧
      t.lineRst = s.lineRst ∧ t.rd = s.rd ∧ t.sst = s.sst ∧ t.buf = s.buf

/-- 30_encoding.md R91: a reserved opcode completes in the cycle after its acceptance with ILLEGAL, and changes no line,
no Reading, no `cst` and no `sst`; it clears `got` and latches `op_l`, `a0` and `a1`. -/
def Obligations.ReservedCommandCompletesIllegal : Prop :=
  ∀ s : State, Offered s.ports.cmdOp s → s.ports.cmdOp = 0 ∨ 8 ≤ s.ports.cmdOp → Ahead 2 Ports.noReset s →
    ∃ u t, step s = .next u ∧ u.busy = true ∧ step u = .next t ∧ t.busy = false ∧ t.doneStb = true ∧ t.res = .illegal ∧
      t.lineEn = s.lineEn ∧ t.lineRst = s.lineRst ∧ t.rd = s.rd ∧ t.cst = s.cst ∧ t.sst = s.sst ∧
      t.got = false ∧ t.opL = s.ports.cmdOp ∧ t.a0 = s.ports.cmdArg0 ∧ t.a1 = s.ports.cmdArg1

/-- 43_controller.md R141: RESET with a reset line: `done_stb` comes 100 × `N_MS` + 4 cycles after acceptance with OK, the
line high again, the enable line raised if present, whatever is requested, received or failing meanwhile; without a
reset line it comes 2 cycles after and neither line is touched. -/
def Obligations.ResetCommandRunsToItsEnd : Prop :=
  ∀ s : State, Offered 1 s →
    (s.par.hasRst = true → Ahead (100 * s.par.nMs + 5) Ports.noReset s →
      ∃ t, runCycles (100 * s.par.nMs + 5) s = .next t ∧ t.busy = false ∧ t.doneStb = true ∧ t.res = .ok ∧
        t.lineRst = true ∧ t.lineEn = (if s.par.hasEn then true else s.lineEn) ∧
        t.cst = (if s.par.hasEn then .enabled else .suspended) ∧ t.rd = s.rd) ∧
    (s.par.hasRst = false → Ahead 3 Ports.noReset s →
      ∃ t, runCycles 3 s = .next t ∧ t.busy = false ∧ t.doneStb = true ∧ t.res = .ok ∧
        t.lineRst = s.lineRst ∧ t.lineEn = s.lineEn ∧ t.cst = s.cst ∧ t.rd = s.rd)

/-- 43_controller.md R144: WARMUP with nothing in the stream: without cancellation it completes with OK v × `N_MS` + 5
cycles after acceptance, v its duration; with the flag already set it completes with CANCELLED 5 cycles after. -/
def Obligations.WarmupCommandRunsToItsEnd : Prop :=
  ∀ s : State, Offered 4 s → s.rxq = [] →
    (s.cancel = false → Ahead (s.ports.cmdArg0.toNat * s.par.nMs + 6) Ports.noCancel s →
      NoArrivals (s.ports.cmdArg0.toNat * s.par.nMs + 5) s →
      ∃ t, runCycles (s.ports.cmdArg0.toNat * s.par.nMs + 6) s = .next t ∧ t.busy = false ∧ t.doneStb = true ∧
        t.res = .ok ∧ t.rd = s.rd ∧ t.lineEn = s.lineEn ∧ t.lineRst = s.lineRst) ∧
    (s.cancel = true → Ahead 6 Ports.noReset s → NoArrivals 5 s →
      ∃ t, runCycles 6 s = .next t ∧ t.busy = false ∧ t.doneStb = true ∧ t.res = .cancelled ∧
        t.rd = s.rd ∧ t.lineEn = s.lineEn ∧ t.lineRst = s.lineRst)

/-- 42_synchronizer.md R119: a RECEIVE whose 32 bytes are all buffered and form a valid frame completes 35 cycles after
acceptance with OK and its Reading, and consumes exactly those bytes. -/
def Obligations.ReceiveCommandReturnsABufferedFrame : Prop :=
  ∀ (s : State) (fields : Vector Half 12) (h0 h1 : Half) (rest : List Byte), Offered 5 s → s.cancel = false →
    s.rxq = (encodeReading fields h0 h1).toBytes ++ rest → Ahead 36 Ports.calm s →
    ∃ t later, runCycles 36 s = .next t ∧ t.busy = false ∧ t.doneStb = true ∧ t.res = .ok ∧ t.got = true ∧
      t.rd = fields ∧ t.rxq = rest ++ later ∧ t.lineEn = s.lineEn ∧ t.lineRst = s.lineRst

/-- 44_session.md R160: ONESHOT with no warm-up and a valid frame buffered: the Reading is reported 39 cycles after
acceptance, the sensor is disabled, and the command completes with OK 41 cycles after acceptance (95_test_vectors.md P6);
with a reset line, both come later by the length of the reset pulse (43_controller.md R133). -/
def Obligations.OneshotReportsABufferedFrame : Prop :=
  ∀ (s : State) (fields : Vector Half 12) (h0 h1 : Half) (rest : List Byte), Offered 6 s → s.ports.cmdArg0 = 0 →
    s.cancel = false → s.rxq = (encodeReading fields h0 h1).toBytes ++ rest →
    let pulse := if s.par.hasRst then 100 * s.par.nMs + 2 else 0
    Ahead (pulse + 42) Ports.calm s →
    (∃ u, runCycles (pulse + 40) s = .next u ∧ u.reportStb = true ∧ u.rd = fields ∧
      u.lineEn = (if s.par.hasEn then true else s.lineEn)) ∧
    ∃ t, runCycles (pulse + 42) s = .next t ∧ t.busy = false ∧ t.doneStb = true ∧ t.res = .ok ∧ t.got = true ∧
      t.rd = fields ∧ t.sst = .done ∧ t.lineEn = (if s.par.hasEn then false else s.lineEn)

/-- 44_session.md R161, R163: MONITOR accepted with the cancellation flag already set and with nothing in the stream, no
byte buffered and none arriving: the warm-up is cut short, no receive is attempted, the finalizer runs, and the command
completes with CANCELLED 9 cycles after acceptance; with a reset line, later by the length of the reset pulse, which is
not cut short (43_controller.md R133). -/
def Obligations.CancelledMonitorCleansUp : Prop :=
  ∀ s : State, Offered 7 s → s.cancel = true → s.rxq = [] →
    let pulse := if s.par.hasRst then 100 * s.par.nMs + 2 else 0
    Ahead (pulse + 10) Ports.noReset s → NoArrivals (pulse + 9) s →
    ∃ t, runCycles (pulse + 10) s = .next t ∧ t.busy = false ∧ t.doneStb = true ∧ t.res = .cancelled ∧ t.got = false ∧
      t.rd = s.rd ∧ t.sst = .done ∧ t.lineEn = (if s.par.hasEn then false else s.lineEn) ∧
      t.lineRst = (if s.par.hasRst then true else s.lineRst)
end

