-- ==== Sys2Proof/Laws/Decode.lean ====
section
/-! SUPPORT. Bytes, fields and words: the frame buffer and the frame's fields hold the same bits, and a number
written in bytes is read back. -/

namespace Sys2Proof

/-- The two bytes of a field assembled by `u16` are those it was assembled from (30_encoding.md R85). -/
theorem halfBytes_u16 (h l : Byte) : halfBytes (u16 h l) = [h, l] := by
  simp only [halfBytes, u16, List.cons.injEq, and_true]
  constructor <;> (ext i hi; simp) <;> grind

/-- A 16-bit field is `u16` of its high and its low byte (30_encoding.md R85). -/
theorem u16_extract (v : Half) : u16 (v.extractLsb' 8 8) (v.extractLsb' 0 8) = v := by
  simp only [u16]
  ext i hi
  simp only [BitVec.getElem_append, BitVec.getElem_extractLsb']
  split
  · simp; exact BitVec.getLsbD_eq_getElem (by omega)
  · rw [show 8 + (i - 8) = i by omega]; exact BitVec.getLsbD_eq_getElem (by omega)

/-- The fields of a frame laid out in bytes are the frame (30_encoding.md R80). -/
theorem Frame.ofBuf_toBuf (f : Frame) : Frame.ofBuf f.toBuf = f := by
  obtain ⟨m0, m1, h0, h1, ⟨⟨rd⟩, hrd⟩, c⟩ := f
  simp only [List.size_toArray] at hrd
  match rd, hrd with
  | [r0, r1, r2, r3, r4, r5, r6, r7, r8, r9, r10, r11], _ =>
    simp only [Frame.ofBuf, Frame.toBuf, Frame.toBytes, halfBytes, Frame.mk.injEq]
    refine ⟨rfl, rfl, u16_extract h0, u16_extract h1, ?_, u16_extract c⟩
    ext1 i hi
    rw [Vector.getElem_ofFn]
    interval_cases i <;> exact u16_extract _

/-- Reading bytes on from a number already read. -/
theorem natOfBytes_acc (bs : List Byte) (n : Nat) : bs.foldl (fun n b => n * 256 + b.toNat) n = n * 256 ^ bs.length + natOfBytes bs := by
  induction bs generalizing n with
  | nil => simp [natOfBytes]
  | cons b bs ih => 
    simp only [natOfBytes, List.foldl_cons, List.length_cons] at *
    rw [ih, ih (0 * 256 + b.toNat)]; ring

/-- The first byte is the most significant (30_encoding.md R80). -/
theorem natOfBytes_cons (b : Byte) (bs : List Byte)  : natOfBytes (b :: bs) = b.toNat * 256 ^ bs.length + natOfBytes bs := by
  rw [natOfBytes, List.foldl_cons, natOfBytes_acc]; simp

/-- `bytesOfNat n` writes `n` bytes. -/
theorem length_bytesOfNat (n v : Nat) : (bytesOfNat n v).length = n := by
  induction n with
  | zero => rfl
  | succ n ih => simp [bytesOfNat, ih]

/-- A number written in `n` bytes is read back modulo `256 ^ n`. -/
theorem natOfBytes_bytesOfNat (n v : Nat) : natOfBytes (bytesOfNat n v) = v % 256 ^ n := by
  induction n with
  | zero => simp [bytesOfNat, natOfBytes, Nat.mod_one]
  | succ n ih =>
    have e : (2 : Nat) ^ (8 * n) = 256 ^ n := by rw [Nat.pow_mul]
    rw [bytesOfNat, natOfBytes_cons, ih, length_bytesOfNat, BitVec.toNat_ofNat, Nat.shiftRight_eq_div_pow, e,
      Nat.pow_succ 256 n, Nat.mod_mul, Nat.mul_comm, Nat.add_comm]

/-- Bytes read as a number are written back. -/
theorem bytesOfNat_natOfBytes (bs : List Byte) : bytesOfNat bs.length (natOfBytes bs) = bs := by
  have key : ∀ (bs : List Byte) (k : Nat), bytesOfNat bs.length (k * 256 ^ bs.length + natOfBytes bs) = bs := by
    intro bs
    induction bs with
    | nil => intro k; rfl
    | cons b bs ih =>
      intro k
      have hlt : ∀ cs : List Byte, natOfBytes cs < 256 ^ cs.length := by
        intro cs
        induction cs with
        | nil => simp [natOfBytes]
        | cons c cs ihc =>
          rw [natOfBytes_cons, List.length_cons, pow_succ]
          have := c.isLt
          nlinarith [Nat.one_le_two_pow (n := cs.length)]
      have e : k * 256 ^ (b :: bs).length + natOfBytes (b :: bs) = (k * 256 + b.toNat) * 256 ^ bs.length + natOfBytes bs := by
        rw [natOfBytes_cons, List.length_cons]; ring
      rw [e, List.length_cons, bytesOfNat, ih, List.cons.injEq]
      refine ⟨?_, rfl⟩
      rw [Nat.shiftRight_eq_div_pow, Nat.pow_mul, show (2 : Nat) ^ 8 = 256 from rfl, Nat.add_comm, Nat.add_mul_div_right _ _ (by positivity), Nat.div_eq_of_lt (hlt bs)]
      apply BitVec.eq_of_toNat_eq
      have := b.isLt
      simp only [BitVec.toNat_ofNat]
      omega
  simpa using key bs 0

/-- `u16(h, l) = h * 256 + l` (30_encoding.md R85). -/
theorem u16_toNat (h l : Byte) : (u16 h l).toNat = h.toNat * 256 + l.toNat := by
  simp only [u16, BitVec.toNat_append]
  rw [← Nat.shiftLeft_add_eq_or_of_lt l.isLt, Nat.shiftLeft_eq]

/-- The bytes of a buffer's fields are the buffer's (30_encoding.md R80). -/
theorem Frame.toBytes_ofBuf (b : Vector Byte 32) : (Frame.ofBuf b).toBytes = b.toList := by
  simp only [Frame.toBytes, Frame.ofBuf, halfBytes_u16, Vector.toList_ofFn, List.ofFn_succ, List.ofFn_zero,
    List.flatMap_cons, List.flatMap_nil]
  apply List.ext_getElem
  · simp
  · intro i _ h2
    have : i < 32 := by simpa using h2
    interval_cases i <;> simp [rdBase]

/-- A buffer's fields laid out again are the buffer (10_state.md R23). -/
theorem Frame.toBuf_ofBuf (b : Vector Byte 32) : (Frame.ofBuf b).toBuf = b := by
  apply Vector.toArray_inj.1
  simp [Frame.toBuf, Frame.toBytes_ofBuf, Vector.toList]

/-- A frame's buffer lists the frame's bytes. -/
theorem Frame.toList_toBuf (f : Frame) : f.toBuf.toList = f.toBytes := by simp [Frame.toBuf]

end Sys2Proof
end

