-- ==== Sys2Proof/Laws/State.lean ====
section
/-! SUPPORT. What each update of the state does to each field, so that no later proof unfolds a record update. -/

namespace Sys2Proof.Machine

/-! `load` -/

@[simp] theorem State.load_par (v : Word) (s : State) : (s.load v).par = s.par := rfl
@[simp] theorem State.load_busy (v : Word) (s : State) : (s.load v).busy = s.busy := rfl
@[simp] theorem State.load_opL (v : Word) (s : State) : (s.load v).opL = s.opL := rfl
@[simp] theorem State.load_cancel (v : Word) (s : State) : (s.load v).cancel = s.cancel := rfl
@[simp] theorem State.load_got (v : Word) (s : State) : (s.load v).got = s.got := rfl
@[simp] theorem State.load_res (v : Word) (s : State) : (s.load v).res = s.res := rfl
@[simp] theorem State.load_cst (v : Word) (s : State) : (s.load v).cst = s.cst := rfl
@[simp] theorem State.load_sst (v : Word) (s : State) : (s.load v).sst = s.sst := rfl
@[simp] theorem State.load_ust (v : Word) (s : State) : (s.load v).ust = s.ust := rfl
@[simp] theorem State.load_upc (v : Word) (s : State) : (s.load v).upc = s.upc := rfl
@[simp] theorem State.load_cnt (v : Word) (s : State) : (s.load v).cnt = s.cnt := rfl
@[simp] theorem State.load_tmr (v : Word) (s : State) : (s.load v).tmr = v := rfl
@[simp] theorem State.load_pre (v : Word) (s : State) : (s.load v).pre = 0 := rfl
@[simp] theorem State.load_a0 (v : Word) (s : State) : (s.load v).a0 = s.a0 := rfl
@[simp] theorem State.load_a1 (v : Word) (s : State) : (s.load v).a1 = s.a1 := rfl
@[simp] theorem State.load_lineEn (v : Word) (s : State) : (s.load v).lineEn = s.lineEn := rfl
@[simp] theorem State.load_lineRst (v : Word) (s : State) : (s.load v).lineRst = s.lineRst := rfl
@[simp] theorem State.load_buf (v : Word) (s : State) : (s.load v).buf = s.buf := rfl
@[simp] theorem State.load_rd (v : Word) (s : State) : (s.load v).rd = s.rd := rfl
@[simp] theorem State.load_rxPop (v : Word) (s : State) : (s.load v).rxPop = s.rxPop := rfl
@[simp] theorem State.load_reportStb (v : Word) (s : State) : (s.load v).reportStb = s.reportStb := rfl
@[simp] theorem State.load_doneStb (v : Word) (s : State) : (s.load v).doneStb = s.doneStb := rfl
@[simp] theorem State.load_evChk (v : Word) (s : State) : (s.load v).evChk = s.evChk := rfl
@[simp] theorem State.load_rxq (v : Word) (s : State) : (s.load v).rxq = s.rxq := rfl
@[simp] theorem State.load_ports (v : Word) (s : State) : (s.load v).ports = s.ports := rfl
@[simp] theorem State.load_upcoming (v : Word) (s : State) : (s.load v).upcoming = s.upcoming := rfl
@[simp] theorem State.load_cycle (v : Word) (s : State) : (s.load v).cycle = s.cycle := rfl

/-! `discardToHunt` -/

@[simp] theorem State.discardToHunt_par (s : State) : (s.discardToHunt).par = s.par := rfl
@[simp] theorem State.discardToHunt_busy (s : State) : (s.discardToHunt).busy = s.busy := rfl
@[simp] theorem State.discardToHunt_opL (s : State) : (s.discardToHunt).opL = s.opL := rfl
@[simp] theorem State.discardToHunt_cancel (s : State) : (s.discardToHunt).cancel = s.cancel := rfl
@[simp] theorem State.discardToHunt_got (s : State) : (s.discardToHunt).got = s.got := rfl
@[simp] theorem State.discardToHunt_res (s : State) : (s.discardToHunt).res = s.res := rfl
@[simp] theorem State.discardToHunt_cst (s : State) : (s.discardToHunt).cst = s.cst := rfl
@[simp] theorem State.discardToHunt_sst (s : State) : (s.discardToHunt).sst = s.sst := rfl
@[simp] theorem State.discardToHunt_ust (s : State) : (s.discardToHunt).ust = .hunt := rfl
@[simp] theorem State.discardToHunt_upc (s : State) : (s.discardToHunt).upc = s.upc := rfl
@[simp] theorem State.discardToHunt_cnt (s : State) : (s.discardToHunt).cnt = 0 := rfl
@[simp] theorem State.discardToHunt_tmr (s : State) : (s.discardToHunt).tmr = s.tmr := rfl
@[simp] theorem State.discardToHunt_pre (s : State) : (s.discardToHunt).pre = s.pre := rfl
@[simp] theorem State.discardToHunt_a0 (s : State) : (s.discardToHunt).a0 = s.a0 := rfl
@[simp] theorem State.discardToHunt_a1 (s : State) : (s.discardToHunt).a1 = s.a1 := rfl
@[simp] theorem State.discardToHunt_lineEn (s : State) : (s.discardToHunt).lineEn = s.lineEn := rfl
@[simp] theorem State.discardToHunt_lineRst (s : State) : (s.discardToHunt).lineRst = s.lineRst := rfl
@[simp] theorem State.discardToHunt_buf (s : State) : (s.discardToHunt).buf = s.buf := rfl
@[simp] theorem State.discardToHunt_rd (s : State) : (s.discardToHunt).rd = s.rd := rfl
@[simp] theorem State.discardToHunt_rxPop (s : State) : (s.discardToHunt).rxPop = s.rxPop := rfl
@[simp] theorem State.discardToHunt_reportStb (s : State) : (s.discardToHunt).reportStb = s.reportStb := rfl
@[simp] theorem State.discardToHunt_doneStb (s : State) : (s.discardToHunt).doneStb = s.doneStb := rfl
@[simp] theorem State.discardToHunt_evChk (s : State) : (s.discardToHunt).evChk = s.evChk := rfl
@[simp] theorem State.discardToHunt_rxq (s : State) : (s.discardToHunt).rxq = s.rxq := rfl
@[simp] theorem State.discardToHunt_ports (s : State) : (s.discardToHunt).ports = s.ports := rfl
@[simp] theorem State.discardToHunt_upcoming (s : State) : (s.discardToHunt).upcoming = s.upcoming := rfl
@[simp] theorem State.discardToHunt_cycle (s : State) : (s.discardToHunt).cycle = s.cycle := rfl

/-! `failReceive` -/

@[simp] theorem State.failReceive_par (code : Res) (s : State) : (s.failReceive code).par = s.par := rfl
@[simp] theorem State.failReceive_busy (code : Res) (s : State) : (s.failReceive code).busy = s.busy := rfl
@[simp] theorem State.failReceive_opL (code : Res) (s : State) : (s.failReceive code).opL = s.opL := rfl
@[simp] theorem State.failReceive_cancel (code : Res) (s : State) : (s.failReceive code).cancel = s.cancel := rfl
@[simp] theorem State.failReceive_got (code : Res) (s : State) : (s.failReceive code).got = false := rfl
@[simp] theorem State.failReceive_res (code : Res) (s : State) : (s.failReceive code).res = code := rfl
@[simp] theorem State.failReceive_cst (code : Res) (s : State) : (s.failReceive code).cst = s.cst := rfl
@[simp] theorem State.failReceive_sst (code : Res) (s : State) : (s.failReceive code).sst = s.sst := rfl
@[simp] theorem State.failReceive_ust (code : Res) (s : State) : (s.failReceive code).ust = .idle := rfl
@[simp] theorem State.failReceive_upc (code : Res) (s : State) : (s.failReceive code).upc = s.upc := rfl
@[simp] theorem State.failReceive_cnt (code : Res) (s : State) : (s.failReceive code).cnt = 0 := rfl
@[simp] theorem State.failReceive_tmr (code : Res) (s : State) : (s.failReceive code).tmr = s.tmr := rfl
@[simp] theorem State.failReceive_pre (code : Res) (s : State) : (s.failReceive code).pre = s.pre := rfl
@[simp] theorem State.failReceive_a0 (code : Res) (s : State) : (s.failReceive code).a0 = s.a0 := rfl
@[simp] theorem State.failReceive_a1 (code : Res) (s : State) : (s.failReceive code).a1 = s.a1 := rfl
@[simp] theorem State.failReceive_lineEn (code : Res) (s : State) : (s.failReceive code).lineEn = s.lineEn := rfl
@[simp] theorem State.failReceive_lineRst (code : Res) (s : State) : (s.failReceive code).lineRst = s.lineRst := rfl
@[simp] theorem State.failReceive_buf (code : Res) (s : State) : (s.failReceive code).buf = s.buf := rfl
@[simp] theorem State.failReceive_rd (code : Res) (s : State) : (s.failReceive code).rd = s.rd := rfl
@[simp] theorem State.failReceive_rxPop (code : Res) (s : State) : (s.failReceive code).rxPop = s.rxPop := rfl
@[simp] theorem State.failReceive_reportStb (code : Res) (s : State) : (s.failReceive code).reportStb = s.reportStb := rfl
@[simp] theorem State.failReceive_doneStb (code : Res) (s : State) : (s.failReceive code).doneStb = s.doneStb := rfl
@[simp] theorem State.failReceive_evChk (code : Res) (s : State) : (s.failReceive code).evChk = s.evChk := rfl
@[simp] theorem State.failReceive_rxq (code : Res) (s : State) : (s.failReceive code).rxq = s.rxq := rfl
@[simp] theorem State.failReceive_ports (code : Res) (s : State) : (s.failReceive code).ports = s.ports := rfl
@[simp] theorem State.failReceive_upcoming (code : Res) (s : State) : (s.failReceive code).upcoming = s.upcoming := rfl
@[simp] theorem State.failReceive_cycle (code : Res) (s : State) : (s.failReceive code).cycle = s.cycle := rfl

/-! `cancelWait` -/

@[simp] theorem State.cancelWait_par (s : State) : (s.cancelWait).par = s.par := rfl
@[simp] theorem State.cancelWait_busy (s : State) : (s.cancelWait).busy = s.busy := rfl
@[simp] theorem State.cancelWait_opL (s : State) : (s.cancelWait).opL = s.opL := rfl
@[simp] theorem State.cancelWait_cancel (s : State) : (s.cancelWait).cancel = s.cancel := rfl
@[simp] theorem State.cancelWait_got (s : State) : (s.cancelWait).got = s.got := rfl
@[simp] theorem State.cancelWait_res (s : State) : (s.cancelWait).res = .cancelled := rfl
@[simp] theorem State.cancelWait_cst (s : State) : (s.cancelWait).cst = s.cst := rfl
@[simp] theorem State.cancelWait_sst (s : State) : (s.cancelWait).sst = s.sst := rfl
@[simp] theorem State.cancelWait_ust (s : State) : (s.cancelWait).ust = .idle := rfl
@[simp] theorem State.cancelWait_upc (s : State) : (s.cancelWait).upc = s.upc := rfl
@[simp] theorem State.cancelWait_cnt (s : State) : (s.cancelWait).cnt = s.cnt := rfl
@[simp] theorem State.cancelWait_tmr (s : State) : (s.cancelWait).tmr = s.tmr := rfl
@[simp] theorem State.cancelWait_pre (s : State) : (s.cancelWait).pre = s.pre := rfl
@[simp] theorem State.cancelWait_a0 (s : State) : (s.cancelWait).a0 = s.a0 := rfl
@[simp] theorem State.cancelWait_a1 (s : State) : (s.cancelWait).a1 = s.a1 := rfl
@[simp] theorem State.cancelWait_lineEn (s : State) : (s.cancelWait).lineEn = s.lineEn := rfl
@[simp] theorem State.cancelWait_lineRst (s : State) : (s.cancelWait).lineRst = s.lineRst := rfl
@[simp] theorem State.cancelWait_buf (s : State) : (s.cancelWait).buf = s.buf := rfl
@[simp] theorem State.cancelWait_rd (s : State) : (s.cancelWait).rd = s.rd := rfl
@[simp] theorem State.cancelWait_rxPop (s : State) : (s.cancelWait).rxPop = s.rxPop := rfl
@[simp] theorem State.cancelWait_reportStb (s : State) : (s.cancelWait).reportStb = s.reportStb := rfl
@[simp] theorem State.cancelWait_doneStb (s : State) : (s.cancelWait).doneStb = s.doneStb := rfl
@[simp] theorem State.cancelWait_evChk (s : State) : (s.cancelWait).evChk = s.evChk := rfl
@[simp] theorem State.cancelWait_rxq (s : State) : (s.cancelWait).rxq = s.rxq := rfl
@[simp] theorem State.cancelWait_ports (s : State) : (s.cancelWait).ports = s.ports := rfl
@[simp] theorem State.cancelWait_upcoming (s : State) : (s.cancelWait).upcoming = s.upcoming := rfl
@[simp] theorem State.cancelWait_cycle (s : State) : (s.cancelWait).cycle = s.cycle := rfl

/-! `accept` -/

@[simp] theorem State.accept_par (op : BitVec 4) (arg0 arg1 : Word) (code : Res) (entry : RowNum) (s : State) : (s.accept op arg0 arg1 code entry).par = s.par := rfl
@[simp] theorem State.accept_busy (op : BitVec 4) (arg0 arg1 : Word) (code : Res) (entry : RowNum) (s : State) : (s.accept op arg0 arg1 code entry).busy = true := rfl
@[simp] theorem State.accept_opL (op : BitVec 4) (arg0 arg1 : Word) (code : Res) (entry : RowNum) (s : State) : (s.accept op arg0 arg1 code entry).opL = op := rfl
@[simp] theorem State.accept_cancel (op : BitVec 4) (arg0 arg1 : Word) (code : Res) (entry : RowNum) (s : State) : (s.accept op arg0 arg1 code entry).cancel = s.cancel := rfl
@[simp] theorem State.accept_got (op : BitVec 4) (arg0 arg1 : Word) (code : Res) (entry : RowNum) (s : State) : (s.accept op arg0 arg1 code entry).got = false := rfl
@[simp] theorem State.accept_res (op : BitVec 4) (arg0 arg1 : Word) (code : Res) (entry : RowNum) (s : State) : (s.accept op arg0 arg1 code entry).res = code := rfl
@[simp] theorem State.accept_cst (op : BitVec 4) (arg0 arg1 : Word) (code : Res) (entry : RowNum) (s : State) : (s.accept op arg0 arg1 code entry).cst = s.cst := rfl
@[simp] theorem State.accept_sst (op : BitVec 4) (arg0 arg1 : Word) (code : Res) (entry : RowNum) (s : State) : (s.accept op arg0 arg1 code entry).sst = s.sst := rfl
@[simp] theorem State.accept_ust (op : BitVec 4) (arg0 arg1 : Word) (code : Res) (entry : RowNum) (s : State) : (s.accept op arg0 arg1 code entry).ust = s.ust := rfl
@[simp] theorem State.accept_upc (op : BitVec 4) (arg0 arg1 : Word) (code : Res) (entry : RowNum) (s : State) : (s.accept op arg0 arg1 code entry).upc = entry := rfl
@[simp] theorem State.accept_cnt (op : BitVec 4) (arg0 arg1 : Word) (code : Res) (entry : RowNum) (s : State) : (s.accept op arg0 arg1 code entry).cnt = s.cnt := rfl
@[simp] theorem State.accept_tmr (op : BitVec 4) (arg0 arg1 : Word) (code : Res) (entry : RowNum) (s : State) : (s.accept op arg0 arg1 code entry).tmr = s.tmr := rfl
@[simp] theorem State.accept_pre (op : BitVec 4) (arg0 arg1 : Word) (code : Res) (entry : RowNum) (s : State) : (s.accept op arg0 arg1 code entry).pre = s.pre := rfl
@[simp] theorem State.accept_a0 (op : BitVec 4) (arg0 arg1 : Word) (code : Res) (entry : RowNum) (s : State) : (s.accept op arg0 arg1 code entry).a0 = arg0 := rfl
@[simp] theorem State.accept_a1 (op : BitVec 4) (arg0 arg1 : Word) (code : Res) (entry : RowNum) (s : State) : (s.accept op arg0 arg1 code entry).a1 = arg1 := rfl
@[simp] theorem State.accept_lineEn (op : BitVec 4) (arg0 arg1 : Word) (code : Res) (entry : RowNum) (s : State) : (s.accept op arg0 arg1 code entry).lineEn = s.lineEn := rfl
@[simp] theorem State.accept_lineRst (op : BitVec 4) (arg0 arg1 : Word) (code : Res) (entry : RowNum) (s : State) : (s.accept op arg0 arg1 code entry).lineRst = s.lineRst := rfl
@[simp] theorem State.accept_buf (op : BitVec 4) (arg0 arg1 : Word) (code : Res) (entry : RowNum) (s : State) : (s.accept op arg0 arg1 code entry).buf = s.buf := rfl
@[simp] theorem State.accept_rd (op : BitVec 4) (arg0 arg1 : Word) (code : Res) (entry : RowNum) (s : State) : (s.accept op arg0 arg1 code entry).rd = s.rd := rfl
@[simp] theorem State.accept_rxPop (op : BitVec 4) (arg0 arg1 : Word) (code : Res) (entry : RowNum) (s : State) : (s.accept op arg0 arg1 code entry).rxPop = s.rxPop := rfl
@[simp] theorem State.accept_reportStb (op : BitVec 4) (arg0 arg1 : Word) (code : Res) (entry : RowNum) (s : State) : (s.accept op arg0 arg1 code entry).reportStb = s.reportStb := rfl
@[simp] theorem State.accept_doneStb (op : BitVec 4) (arg0 arg1 : Word) (code : Res) (entry : RowNum) (s : State) : (s.accept op arg0 arg1 code entry).doneStb = s.doneStb := rfl
@[simp] theorem State.accept_evChk (op : BitVec 4) (arg0 arg1 : Word) (code : Res) (entry : RowNum) (s : State) : (s.accept op arg0 arg1 code entry).evChk = s.evChk := rfl
@[simp] theorem State.accept_rxq (op : BitVec 4) (arg0 arg1 : Word) (code : Res) (entry : RowNum) (s : State) : (s.accept op arg0 arg1 code entry).rxq = s.rxq := rfl
@[simp] theorem State.accept_ports (op : BitVec 4) (arg0 arg1 : Word) (code : Res) (entry : RowNum) (s : State) : (s.accept op arg0 arg1 code entry).ports = s.ports := rfl
@[simp] theorem State.accept_upcoming (op : BitVec 4) (arg0 arg1 : Word) (code : Res) (entry : RowNum) (s : State) : (s.accept op arg0 arg1 code entry).upcoming = s.upcoming := rfl
@[simp] theorem State.accept_cycle (op : BitVec 4) (arg0 arg1 : Word) (code : Res) (entry : RowNum) (s : State) : (s.accept op arg0 arg1 code entry).cycle = s.cycle := rfl

/-! `hardReset` -/

@[simp] theorem State.hardReset_par (s : State) : (s.hardReset).par = s.par := rfl
@[simp] theorem State.hardReset_busy (s : State) : (s.hardReset).busy = false := rfl
@[simp] theorem State.hardReset_opL (s : State) : (s.hardReset).opL = 0 := rfl
@[simp] theorem State.hardReset_cancel (s : State) : (s.hardReset).cancel = false := rfl
@[simp] theorem State.hardReset_got (s : State) : (s.hardReset).got = false := rfl
@[simp] theorem State.hardReset_res (s : State) : (s.hardReset).res = .ok := rfl
@[simp] theorem State.hardReset_cst (s : State) : (s.hardReset).cst = .suspended := rfl
@[simp] theorem State.hardReset_sst (s : State) : (s.hardReset).sst = .init := rfl
@[simp] theorem State.hardReset_ust (s : State) : (s.hardReset).ust = .idle := rfl
@[simp] theorem State.hardReset_upc (s : State) : (s.hardReset).upc = 0 := rfl
@[simp] theorem State.hardReset_cnt (s : State) : (s.hardReset).cnt = 0 := rfl
@[simp] theorem State.hardReset_tmr (s : State) : (s.hardReset).tmr = 0 := rfl
@[simp] theorem State.hardReset_pre (s : State) : (s.hardReset).pre = 0 := rfl
@[simp] theorem State.hardReset_a0 (s : State) : (s.hardReset).a0 = Config.freeA0 s.cycle := rfl
@[simp] theorem State.hardReset_a1 (s : State) : (s.hardReset).a1 = Config.freeA1 s.cycle := rfl
@[simp] theorem State.hardReset_lineEn (s : State) : (s.hardReset).lineEn = false := rfl
@[simp] theorem State.hardReset_lineRst (s : State) : (s.hardReset).lineRst = true := rfl
@[simp] theorem State.hardReset_buf (s : State) : (s.hardReset).buf = Config.freeBuf s.cycle := rfl
@[simp] theorem State.hardReset_rd (s : State) : (s.hardReset).rd = Config.freeRd s.cycle := rfl
@[simp] theorem State.hardReset_rxPop (s : State) : (s.hardReset).rxPop = s.rxPop := rfl
@[simp] theorem State.hardReset_reportStb (s : State) : (s.hardReset).reportStb = s.reportStb := rfl
@[simp] theorem State.hardReset_doneStb (s : State) : (s.hardReset).doneStb = s.doneStb := rfl
@[simp] theorem State.hardReset_evChk (s : State) : (s.hardReset).evChk = s.evChk := rfl
@[simp] theorem State.hardReset_rxq (s : State) : (s.hardReset).rxq = s.rxq := rfl
@[simp] theorem State.hardReset_ports (s : State) : (s.hardReset).ports = s.ports := rfl
@[simp] theorem State.hardReset_upcoming (s : State) : (s.hardReset).upcoming = s.upcoming := rfl
@[simp] theorem State.hardReset_cycle (s : State) : (s.hardReset).cycle = s.cycle := rfl

/-! `beginCycle` -/

@[simp] theorem State.beginCycle_par (s : State) : (s.beginCycle).par = s.par := rfl
@[simp] theorem State.beginCycle_busy (s : State) : (s.beginCycle).busy = s.busy := rfl
@[simp] theorem State.beginCycle_opL (s : State) : (s.beginCycle).opL = s.opL := rfl
@[simp] theorem State.beginCycle_cancel (s : State) : (s.beginCycle).cancel = s.cancel := rfl
@[simp] theorem State.beginCycle_got (s : State) : (s.beginCycle).got = s.got := rfl
@[simp] theorem State.beginCycle_res (s : State) : (s.beginCycle).res = s.res := rfl
@[simp] theorem State.beginCycle_cst (s : State) : (s.beginCycle).cst = s.cst := rfl
@[simp] theorem State.beginCycle_sst (s : State) : (s.beginCycle).sst = s.sst := rfl
@[simp] theorem State.beginCycle_ust (s : State) : (s.beginCycle).ust = s.ust := rfl
@[simp] theorem State.beginCycle_upc (s : State) : (s.beginCycle).upc = s.upc := rfl
@[simp] theorem State.beginCycle_cnt (s : State) : (s.beginCycle).cnt = s.cnt := rfl
@[simp] theorem State.beginCycle_tmr (s : State) : (s.beginCycle).tmr = s.tmr := rfl
@[simp] theorem State.beginCycle_pre (s : State) : (s.beginCycle).pre = s.pre := rfl
@[simp] theorem State.beginCycle_a0 (s : State) : (s.beginCycle).a0 = s.a0 := rfl
@[simp] theorem State.beginCycle_a1 (s : State) : (s.beginCycle).a1 = s.a1 := rfl
@[simp] theorem State.beginCycle_lineEn (s : State) : (s.beginCycle).lineEn = s.lineEn := rfl
@[simp] theorem State.beginCycle_lineRst (s : State) : (s.beginCycle).lineRst = s.lineRst := rfl
@[simp] theorem State.beginCycle_buf (s : State) : (s.beginCycle).buf = s.buf := rfl
@[simp] theorem State.beginCycle_rd (s : State) : (s.beginCycle).rd = s.rd := rfl
@[simp] theorem State.beginCycle_rxPop (s : State) : (s.beginCycle).rxPop = false := rfl
@[simp] theorem State.beginCycle_reportStb (s : State) : (s.beginCycle).reportStb = false := rfl
@[simp] theorem State.beginCycle_doneStb (s : State) : (s.beginCycle).doneStb = false := rfl
@[simp] theorem State.beginCycle_evChk (s : State) : (s.beginCycle).evChk = false := rfl
@[simp] theorem State.beginCycle_rxq (s : State) : (s.beginCycle).rxq = s.rxq := rfl
@[simp] theorem State.beginCycle_ports (s : State) : (s.beginCycle).ports = s.ports := rfl
@[simp] theorem State.beginCycle_upcoming (s : State) : (s.beginCycle).upcoming = s.upcoming := rfl
@[simp] theorem State.beginCycle_cycle (s : State) : (s.beginCycle).cycle = s.cycle := rfl

/-! `latchCancel` -/

@[simp] theorem State.latchCancel_par (s : State) : (s.latchCancel).par = s.par := rfl
@[simp] theorem State.latchCancel_busy (s : State) : (s.latchCancel).busy = s.busy := rfl
@[simp] theorem State.latchCancel_opL (s : State) : (s.latchCancel).opL = s.opL := rfl
@[simp] theorem State.latchCancel_cancel (s : State) : (s.latchCancel).cancel = (!s.ports.rst && (s.cancel || s.ports.cancelReq)) := rfl
@[simp] theorem State.latchCancel_got (s : State) : (s.latchCancel).got = s.got := rfl
@[simp] theorem State.latchCancel_res (s : State) : (s.latchCancel).res = s.res := rfl
@[simp] theorem State.latchCancel_cst (s : State) : (s.latchCancel).cst = s.cst := rfl
@[simp] theorem State.latchCancel_sst (s : State) : (s.latchCancel).sst = s.sst := rfl
@[simp] theorem State.latchCancel_ust (s : State) : (s.latchCancel).ust = s.ust := rfl
@[simp] theorem State.latchCancel_upc (s : State) : (s.latchCancel).upc = s.upc := rfl
@[simp] theorem State.latchCancel_cnt (s : State) : (s.latchCancel).cnt = s.cnt := rfl
@[simp] theorem State.latchCancel_tmr (s : State) : (s.latchCancel).tmr = s.tmr := rfl
@[simp] theorem State.latchCancel_pre (s : State) : (s.latchCancel).pre = s.pre := rfl
@[simp] theorem State.latchCancel_a0 (s : State) : (s.latchCancel).a0 = s.a0 := rfl
@[simp] theorem State.latchCancel_a1 (s : State) : (s.latchCancel).a1 = s.a1 := rfl
@[simp] theorem State.latchCancel_lineEn (s : State) : (s.latchCancel).lineEn = s.lineEn := rfl
@[simp] theorem State.latchCancel_lineRst (s : State) : (s.latchCancel).lineRst = s.lineRst := rfl
@[simp] theorem State.latchCancel_buf (s : State) : (s.latchCancel).buf = s.buf := rfl
@[simp] theorem State.latchCancel_rd (s : State) : (s.latchCancel).rd = s.rd := rfl
@[simp] theorem State.latchCancel_rxPop (s : State) : (s.latchCancel).rxPop = s.rxPop := rfl
@[simp] theorem State.latchCancel_reportStb (s : State) : (s.latchCancel).reportStb = s.reportStb := rfl
@[simp] theorem State.latchCancel_doneStb (s : State) : (s.latchCancel).doneStb = s.doneStb := rfl
@[simp] theorem State.latchCancel_evChk (s : State) : (s.latchCancel).evChk = s.evChk := rfl
@[simp] theorem State.latchCancel_rxq (s : State) : (s.latchCancel).rxq = s.rxq := rfl
@[simp] theorem State.latchCancel_ports (s : State) : (s.latchCancel).ports = s.ports := rfl
@[simp] theorem State.latchCancel_upcoming (s : State) : (s.latchCancel).upcoming = s.upcoming := rfl
@[simp] theorem State.latchCancel_cycle (s : State) : (s.latchCancel).cycle = s.cycle := rfl

/-! `nextInputs` -/

@[simp] theorem State.nextInputs_par (s : State) : (s.nextInputs).par = s.par := rfl
@[simp] theorem State.nextInputs_busy (s : State) : (s.nextInputs).busy = s.busy := rfl
@[simp] theorem State.nextInputs_opL (s : State) : (s.nextInputs).opL = s.opL := rfl
@[simp] theorem State.nextInputs_cancel (s : State) : (s.nextInputs).cancel = s.cancel := rfl
@[simp] theorem State.nextInputs_got (s : State) : (s.nextInputs).got = s.got := rfl
@[simp] theorem State.nextInputs_res (s : State) : (s.nextInputs).res = s.res := rfl
@[simp] theorem State.nextInputs_cst (s : State) : (s.nextInputs).cst = s.cst := rfl
@[simp] theorem State.nextInputs_sst (s : State) : (s.nextInputs).sst = s.sst := rfl
@[simp] theorem State.nextInputs_ust (s : State) : (s.nextInputs).ust = s.ust := rfl
@[simp] theorem State.nextInputs_upc (s : State) : (s.nextInputs).upc = s.upc := rfl
@[simp] theorem State.nextInputs_cnt (s : State) : (s.nextInputs).cnt = s.cnt := rfl
@[simp] theorem State.nextInputs_tmr (s : State) : (s.nextInputs).tmr = s.tmr := rfl
@[simp] theorem State.nextInputs_pre (s : State) : (s.nextInputs).pre = s.pre := rfl
@[simp] theorem State.nextInputs_a0 (s : State) : (s.nextInputs).a0 = s.a0 := rfl
@[simp] theorem State.nextInputs_a1 (s : State) : (s.nextInputs).a1 = s.a1 := rfl
@[simp] theorem State.nextInputs_lineEn (s : State) : (s.nextInputs).lineEn = s.lineEn := rfl
@[simp] theorem State.nextInputs_lineRst (s : State) : (s.nextInputs).lineRst = s.lineRst := rfl
@[simp] theorem State.nextInputs_buf (s : State) : (s.nextInputs).buf = s.buf := rfl
@[simp] theorem State.nextInputs_rd (s : State) : (s.nextInputs).rd = s.rd := rfl
@[simp] theorem State.nextInputs_rxPop (s : State) : (s.nextInputs).rxPop = s.rxPop := rfl
@[simp] theorem State.nextInputs_reportStb (s : State) : (s.nextInputs).reportStb = s.reportStb := rfl
@[simp] theorem State.nextInputs_doneStb (s : State) : (s.nextInputs).doneStb = s.doneStb := rfl
@[simp] theorem State.nextInputs_evChk (s : State) : (s.nextInputs).evChk = s.evChk := rfl
@[simp] theorem State.nextInputs_rxq (s : State) : (s.nextInputs).rxq = s.rxq ++ s.nextEnv.arrivals := rfl
@[simp] theorem State.nextInputs_ports (s : State) : (s.nextInputs).ports = s.nextEnv.ports := rfl
@[simp] theorem State.nextInputs_upcoming (s : State) : (s.nextInputs).upcoming = s.upcoming.tail := rfl
@[simp] theorem State.nextInputs_cycle (s : State) : (s.nextInputs).cycle = s.cycle + 1 := rfl

/-! `endCycle` -/

@[simp] theorem State.endCycle_par (s : State) : (s.endCycle).par = s.par := rfl
@[simp] theorem State.endCycle_busy (s : State) : (s.endCycle).busy = s.busy := rfl
@[simp] theorem State.endCycle_opL (s : State) : (s.endCycle).opL = s.opL := rfl
@[simp] theorem State.endCycle_cancel (s : State) : (s.endCycle).cancel = (!s.ports.rst && (s.cancel || s.ports.cancelReq)) := rfl
@[simp] theorem State.endCycle_got (s : State) : (s.endCycle).got = s.got := rfl
@[simp] theorem State.endCycle_res (s : State) : (s.endCycle).res = s.res := rfl
@[simp] theorem State.endCycle_cst (s : State) : (s.endCycle).cst = s.cst := rfl
@[simp] theorem State.endCycle_sst (s : State) : (s.endCycle).sst = s.sst := rfl
@[simp] theorem State.endCycle_ust (s : State) : (s.endCycle).ust = s.ust := rfl
@[simp] theorem State.endCycle_upc (s : State) : (s.endCycle).upc = s.upc := rfl
@[simp] theorem State.endCycle_cnt (s : State) : (s.endCycle).cnt = s.cnt := rfl
@[simp] theorem State.endCycle_tmr (s : State) : (s.endCycle).tmr = s.tmr := rfl
@[simp] theorem State.endCycle_pre (s : State) : (s.endCycle).pre = s.pre := rfl
@[simp] theorem State.endCycle_a0 (s : State) : (s.endCycle).a0 = s.a0 := rfl
@[simp] theorem State.endCycle_a1 (s : State) : (s.endCycle).a1 = s.a1 := rfl
@[simp] theorem State.endCycle_lineEn (s : State) : (s.endCycle).lineEn = s.lineEn := rfl
@[simp] theorem State.endCycle_lineRst (s : State) : (s.endCycle).lineRst = s.lineRst := rfl
@[simp] theorem State.endCycle_buf (s : State) : (s.endCycle).buf = s.buf := rfl
@[simp] theorem State.endCycle_rd (s : State) : (s.endCycle).rd = s.rd := rfl
@[simp] theorem State.endCycle_rxPop (s : State) : (s.endCycle).rxPop = s.rxPop := rfl
@[simp] theorem State.endCycle_reportStb (s : State) : (s.endCycle).reportStb = s.reportStb := rfl
@[simp] theorem State.endCycle_doneStb (s : State) : (s.endCycle).doneStb = s.doneStb := rfl
@[simp] theorem State.endCycle_evChk (s : State) : (s.endCycle).evChk = s.evChk := rfl
@[simp] theorem State.endCycle_rxq (s : State) : (s.endCycle).rxq = s.rxq ++ s.nextEnv.arrivals := rfl
@[simp] theorem State.endCycle_ports (s : State) : (s.endCycle).ports = s.nextEnv.ports := rfl
@[simp] theorem State.endCycle_upcoming (s : State) : (s.endCycle).upcoming = s.upcoming.tail := rfl
@[simp] theorem State.endCycle_cycle (s : State) : (s.endCycle).cycle = s.cycle + 1 := rfl

/-! `tick` -/

@[simp] theorem State.tick_par (s : State) : (s.tick).par = s.par := by
  unfold State.tick; split <;> first | rfl | (split <;> rfl)
@[simp] theorem State.tick_busy (s : State) : (s.tick).busy = s.busy := by
  unfold State.tick; split <;> first | rfl | (split <;> rfl)
@[simp] theorem State.tick_opL (s : State) : (s.tick).opL = s.opL := by
  unfold State.tick; split <;> first | rfl | (split <;> rfl)
@[simp] theorem State.tick_cancel (s : State) : (s.tick).cancel = s.cancel := by
  unfold State.tick; split <;> first | rfl | (split <;> rfl)
@[simp] theorem State.tick_got (s : State) : (s.tick).got = s.got := by
  unfold State.tick; split <;> first | rfl | (split <;> rfl)
@[simp] theorem State.tick_res (s : State) : (s.tick).res = s.res := by
  unfold State.tick; split <;> first | rfl | (split <;> rfl)
@[simp] theorem State.tick_cst (s : State) : (s.tick).cst = s.cst := by
  unfold State.tick; split <;> first | rfl | (split <;> rfl)
@[simp] theorem State.tick_sst (s : State) : (s.tick).sst = s.sst := by
  unfold State.tick; split <;> first | rfl | (split <;> rfl)
@[simp] theorem State.tick_ust (s : State) : (s.tick).ust = s.ust := by
  unfold State.tick; split <;> first | rfl | (split <;> rfl)
@[simp] theorem State.tick_upc (s : State) : (s.tick).upc = s.upc := by
  unfold State.tick; split <;> first | rfl | (split <;> rfl)
@[simp] theorem State.tick_cnt (s : State) : (s.tick).cnt = s.cnt := by
  unfold State.tick; split <;> first | rfl | (split <;> rfl)
@[simp] theorem State.tick_a0 (s : State) : (s.tick).a0 = s.a0 := by
  unfold State.tick; split <;> first | rfl | (split <;> rfl)
@[simp] theorem State.tick_a1 (s : State) : (s.tick).a1 = s.a1 := by
  unfold State.tick; split <;> first | rfl | (split <;> rfl)
@[simp] theorem State.tick_lineEn (s : State) : (s.tick).lineEn = s.lineEn := by
  unfold State.tick; split <;> first | rfl | (split <;> rfl)
@[simp] theorem State.tick_lineRst (s : State) : (s.tick).lineRst = s.lineRst := by
  unfold State.tick; split <;> first | rfl | (split <;> rfl)
@[simp] theorem State.tick_buf (s : State) : (s.tick).buf = s.buf := by
  unfold State.tick; split <;> first | rfl | (split <;> rfl)
@[simp] theorem State.tick_rd (s : State) : (s.tick).rd = s.rd := by
  unfold State.tick; split <;> first | rfl | (split <;> rfl)
@[simp] theorem State.tick_rxPop (s : State) : (s.tick).rxPop = s.rxPop := by
  unfold State.tick; split <;> first | rfl | (split <;> rfl)
@[simp] theorem State.tick_reportStb (s : State) : (s.tick).reportStb = s.reportStb := by
  unfold State.tick; split <;> first | rfl | (split <;> rfl)
@[simp] theorem State.tick_doneStb (s : State) : (s.tick).doneStb = s.doneStb := by
  unfold State.tick; split <;> first | rfl | (split <;> rfl)
@[simp] theorem State.tick_evChk (s : State) : (s.tick).evChk = s.evChk := by
  unfold State.tick; split <;> first | rfl | (split <;> rfl)
@[simp] theorem State.tick_rxq (s : State) : (s.tick).rxq = s.rxq := by
  unfold State.tick; split <;> first | rfl | (split <;> rfl)
@[simp] theorem State.tick_ports (s : State) : (s.tick).ports = s.ports := by
  unfold State.tick; split <;> first | rfl | (split <;> rfl)
@[simp] theorem State.tick_upcoming (s : State) : (s.tick).upcoming = s.upcoming := by
  unfold State.tick; split <;> first | rfl | (split <;> rfl)
@[simp] theorem State.tick_cycle (s : State) : (s.tick).cycle = s.cycle := by
  unfold State.tick; split <;> first | rfl | (split <;> rfl)

/-! `driveEn` -/

@[simp] theorem State.driveEn_par (level : Bool) (s : State) : (s.driveEn level).par = s.par := by
  unfold State.driveEn; split <;> rfl
@[simp] theorem State.driveEn_busy (level : Bool) (s : State) : (s.driveEn level).busy = s.busy := by
  unfold State.driveEn; split <;> rfl
@[simp] theorem State.driveEn_opL (level : Bool) (s : State) : (s.driveEn level).opL = s.opL := by
  unfold State.driveEn; split <;> rfl
@[simp] theorem State.driveEn_cancel (level : Bool) (s : State) : (s.driveEn level).cancel = s.cancel := by
  unfold State.driveEn; split <;> rfl
@[simp] theorem State.driveEn_got (level : Bool) (s : State) : (s.driveEn level).got = s.got := by
  unfold State.driveEn; split <;> rfl
@[simp] theorem State.driveEn_res (level : Bool) (s : State) : (s.driveEn level).res = s.res := by
  unfold State.driveEn; split <;> rfl
@[simp] theorem State.driveEn_cst (level : Bool) (s : State) : (s.driveEn level).cst = s.cst := by
  unfold State.driveEn; split <;> rfl
@[simp] theorem State.driveEn_sst (level : Bool) (s : State) : (s.driveEn level).sst = s.sst := by
  unfold State.driveEn; split <;> rfl
@[simp] theorem State.driveEn_ust (level : Bool) (s : State) : (s.driveEn level).ust = s.ust := by
  unfold State.driveEn; split <;> rfl
@[simp] theorem State.driveEn_upc (level : Bool) (s : State) : (s.driveEn level).upc = s.upc := by
  unfold State.driveEn; split <;> rfl
@[simp] theorem State.driveEn_cnt (level : Bool) (s : State) : (s.driveEn level).cnt = s.cnt := by
  unfold State.driveEn; split <;> rfl
@[simp] theorem State.driveEn_tmr (level : Bool) (s : State) : (s.driveEn level).tmr = s.tmr := by
  unfold State.driveEn; split <;> rfl
@[simp] theorem State.driveEn_pre (level : Bool) (s : State) : (s.driveEn level).pre = s.pre := by
  unfold State.driveEn; split <;> rfl
@[simp] theorem State.driveEn_a0 (level : Bool) (s : State) : (s.driveEn level).a0 = s.a0 := by
  unfold State.driveEn; split <;> rfl
@[simp] theorem State.driveEn_a1 (level : Bool) (s : State) : (s.driveEn level).a1 = s.a1 := by
  unfold State.driveEn; split <;> rfl
@[simp] theorem State.driveEn_lineRst (level : Bool) (s : State) : (s.driveEn level).lineRst = s.lineRst := by
  unfold State.driveEn; split <;> rfl
@[simp] theorem State.driveEn_buf (level : Bool) (s : State) : (s.driveEn level).buf = s.buf := by
  unfold State.driveEn; split <;> rfl
@[simp] theorem State.driveEn_rd (level : Bool) (s : State) : (s.driveEn level).rd = s.rd := by
  unfold State.driveEn; split <;> rfl
@[simp] theorem State.driveEn_rxPop (level : Bool) (s : State) : (s.driveEn level).rxPop = s.rxPop := by
  unfold State.driveEn; split <;> rfl
@[simp] theorem State.driveEn_reportStb (level : Bool) (s : State) : (s.driveEn level).reportStb = s.reportStb := by
  unfold State.driveEn; split <;> rfl
@[simp] theorem State.driveEn_doneStb (level : Bool) (s : State) : (s.driveEn level).doneStb = s.doneStb := by
  unfold State.driveEn; split <;> rfl
@[simp] theorem State.driveEn_evChk (level : Bool) (s : State) : (s.driveEn level).evChk = s.evChk := by
  unfold State.driveEn; split <;> rfl
@[simp] theorem State.driveEn_rxq (level : Bool) (s : State) : (s.driveEn level).rxq = s.rxq := by
  unfold State.driveEn; split <;> rfl
@[simp] theorem State.driveEn_ports (level : Bool) (s : State) : (s.driveEn level).ports = s.ports := by
  unfold State.driveEn; split <;> rfl
@[simp] theorem State.driveEn_upcoming (level : Bool) (s : State) : (s.driveEn level).upcoming = s.upcoming := by
  unfold State.driveEn; split <;> rfl
@[simp] theorem State.driveEn_cycle (level : Bool) (s : State) : (s.driveEn level).cycle = s.cycle := by
  unfold State.driveEn; split <;> rfl

/-! `driveRst` -/

@[simp] theorem State.driveRst_par (level : Bool) (s : State) : (s.driveRst level).par = s.par := by
  unfold State.driveRst; split <;> rfl
@[simp] theorem State.driveRst_busy (level : Bool) (s : State) : (s.driveRst level).busy = s.busy := by
  unfold State.driveRst; split <;> rfl
@[simp] theorem State.driveRst_opL (level : Bool) (s : State) : (s.driveRst level).opL = s.opL := by
  unfold State.driveRst; split <;> rfl
@[simp] theorem State.driveRst_cancel (level : Bool) (s : State) : (s.driveRst level).cancel = s.cancel := by
  unfold State.driveRst; split <;> rfl
@[simp] theorem State.driveRst_got (level : Bool) (s : State) : (s.driveRst level).got = s.got := by
  unfold State.driveRst; split <;> rfl
@[simp] theorem State.driveRst_res (level : Bool) (s : State) : (s.driveRst level).res = s.res := by
  unfold State.driveRst; split <;> rfl
@[simp] theorem State.driveRst_cst (level : Bool) (s : State) : (s.driveRst level).cst = s.cst := by
  unfold State.driveRst; split <;> rfl
@[simp] theorem State.driveRst_sst (level : Bool) (s : State) : (s.driveRst level).sst = s.sst := by
  unfold State.driveRst; split <;> rfl
@[simp] theorem State.driveRst_ust (level : Bool) (s : State) : (s.driveRst level).ust = s.ust := by
  unfold State.driveRst; split <;> rfl
@[simp] theorem State.driveRst_upc (level : Bool) (s : State) : (s.driveRst level).upc = s.upc := by
  unfold State.driveRst; split <;> rfl
@[simp] theorem State.driveRst_cnt (level : Bool) (s : State) : (s.driveRst level).cnt = s.cnt := by
  unfold State.driveRst; split <;> rfl
@[simp] theorem State.driveRst_tmr (level : Bool) (s : State) : (s.driveRst level).tmr = s.tmr := by
  unfold State.driveRst; split <;> rfl
@[simp] theorem State.driveRst_pre (level : Bool) (s : State) : (s.driveRst level).pre = s.pre := by
  unfold State.driveRst; split <;> rfl
@[simp] theorem State.driveRst_a0 (level : Bool) (s : State) : (s.driveRst level).a0 = s.a0 := by
  unfold State.driveRst; split <;> rfl
@[simp] theorem State.driveRst_a1 (level : Bool) (s : State) : (s.driveRst level).a1 = s.a1 := by
  unfold State.driveRst; split <;> rfl
@[simp] theorem State.driveRst_lineEn (level : Bool) (s : State) : (s.driveRst level).lineEn = s.lineEn := by
  unfold State.driveRst; split <;> rfl
@[simp] theorem State.driveRst_buf (level : Bool) (s : State) : (s.driveRst level).buf = s.buf := by
  unfold State.driveRst; split <;> rfl
@[simp] theorem State.driveRst_rd (level : Bool) (s : State) : (s.driveRst level).rd = s.rd := by
  unfold State.driveRst; split <;> rfl
@[simp] theorem State.driveRst_rxPop (level : Bool) (s : State) : (s.driveRst level).rxPop = s.rxPop := by
  unfold State.driveRst; split <;> rfl
@[simp] theorem State.driveRst_reportStb (level : Bool) (s : State) : (s.driveRst level).reportStb = s.reportStb := by
  unfold State.driveRst; split <;> rfl
@[simp] theorem State.driveRst_doneStb (level : Bool) (s : State) : (s.driveRst level).doneStb = s.doneStb := by
  unfold State.driveRst; split <;> rfl
@[simp] theorem State.driveRst_evChk (level : Bool) (s : State) : (s.driveRst level).evChk = s.evChk := by
  unfold State.driveRst; split <;> rfl
@[simp] theorem State.driveRst_rxq (level : Bool) (s : State) : (s.driveRst level).rxq = s.rxq := by
  unfold State.driveRst; split <;> rfl
@[simp] theorem State.driveRst_ports (level : Bool) (s : State) : (s.driveRst level).ports = s.ports := by
  unfold State.driveRst; split <;> rfl
@[simp] theorem State.driveRst_upcoming (level : Bool) (s : State) : (s.driveRst level).upcoming = s.upcoming := by
  unfold State.driveRst; split <;> rfl
@[simp] theorem State.driveRst_cycle (level : Bool) (s : State) : (s.driveRst level).cycle = s.cycle := by
  unfold State.driveRst; split <;> rfl

/-! `rstenCycle` -/

@[simp] theorem State.rstenCycle_par (s : State) : (s.rstenCycle).par = s.par := State.driveEn_par true s
@[simp] theorem State.rstenCycle_busy (s : State) : (s.rstenCycle).busy = s.busy := State.driveEn_busy true s
@[simp] theorem State.rstenCycle_opL (s : State) : (s.rstenCycle).opL = s.opL := State.driveEn_opL true s
@[simp] theorem State.rstenCycle_cancel (s : State) : (s.rstenCycle).cancel = s.cancel := State.driveEn_cancel true s
@[simp] theorem State.rstenCycle_got (s : State) : (s.rstenCycle).got = s.got := State.driveEn_got true s
@[simp] theorem State.rstenCycle_res (s : State) : (s.rstenCycle).res = s.res := State.driveEn_res true s
@[simp] theorem State.rstenCycle_cst (s : State) : (s.rstenCycle).cst = s.cst := State.driveEn_cst true s
@[simp] theorem State.rstenCycle_sst (s : State) : (s.rstenCycle).sst = s.sst := State.driveEn_sst true s
@[simp] theorem State.rstenCycle_ust (s : State) : (s.rstenCycle).ust = .settle := rfl
@[simp] theorem State.rstenCycle_upc (s : State) : (s.rstenCycle).upc = s.upc := State.driveEn_upc true s
@[simp] theorem State.rstenCycle_cnt (s : State) : (s.rstenCycle).cnt = s.cnt := State.driveEn_cnt true s
@[simp] theorem State.rstenCycle_tmr (s : State) : (s.rstenCycle).tmr = tSettleMs := rfl
@[simp] theorem State.rstenCycle_pre (s : State) : (s.rstenCycle).pre = 0 := rfl
@[simp] theorem State.rstenCycle_a0 (s : State) : (s.rstenCycle).a0 = s.a0 := State.driveEn_a0 true s
@[simp] theorem State.rstenCycle_a1 (s : State) : (s.rstenCycle).a1 = s.a1 := State.driveEn_a1 true s
@[simp] theorem State.rstenCycle_lineEn (s : State) : (s.rstenCycle).lineEn = (s.driveEn true).lineEn := rfl
@[simp] theorem State.rstenCycle_lineRst (s : State) : (s.rstenCycle).lineRst = s.lineRst := State.driveEn_lineRst true s
@[simp] theorem State.rstenCycle_buf (s : State) : (s.rstenCycle).buf = s.buf := State.driveEn_buf true s
@[simp] theorem State.rstenCycle_rd (s : State) : (s.rstenCycle).rd = s.rd := State.driveEn_rd true s
@[simp] theorem State.rstenCycle_rxPop (s : State) : (s.rstenCycle).rxPop = s.rxPop := State.driveEn_rxPop true s
@[simp] theorem State.rstenCycle_reportStb (s : State) : (s.rstenCycle).reportStb = s.reportStb := State.driveEn_reportStb true s
@[simp] theorem State.rstenCycle_doneStb (s : State) : (s.rstenCycle).doneStb = s.doneStb := State.driveEn_doneStb true s
@[simp] theorem State.rstenCycle_evChk (s : State) : (s.rstenCycle).evChk = s.evChk := State.driveEn_evChk true s
@[simp] theorem State.rstenCycle_rxq (s : State) : (s.rstenCycle).rxq = s.rxq := State.driveEn_rxq true s
@[simp] theorem State.rstenCycle_ports (s : State) : (s.rstenCycle).ports = s.ports := State.driveEn_ports true s
@[simp] theorem State.rstenCycle_upcoming (s : State) : (s.rstenCycle).upcoming = s.upcoming := State.driveEn_upcoming true s
@[simp] theorem State.rstenCycle_cycle (s : State) : (s.rstenCycle).cycle = s.cycle := State.driveEn_cycle true s

/-! `waitOp` -/

@[simp] theorem State.waitOp_par (o : WaitOperand) (s : State) : (s.waitOp o).par = s.par := rfl
@[simp] theorem State.waitOp_busy (o : WaitOperand) (s : State) : (s.waitOp o).busy = s.busy := rfl
@[simp] theorem State.waitOp_opL (o : WaitOperand) (s : State) : (s.waitOp o).opL = s.opL := rfl
@[simp] theorem State.waitOp_cancel (o : WaitOperand) (s : State) : (s.waitOp o).cancel = s.cancel := rfl
@[simp] theorem State.waitOp_got (o : WaitOperand) (s : State) : (s.waitOp o).got = s.got := rfl
@[simp] theorem State.waitOp_res (o : WaitOperand) (s : State) : (s.waitOp o).res = s.res := rfl
@[simp] theorem State.waitOp_cst (o : WaitOperand) (s : State) : (s.waitOp o).cst = s.cst := rfl
@[simp] theorem State.waitOp_sst (o : WaitOperand) (s : State) : (s.waitOp o).sst = s.sst := rfl
@[simp] theorem State.waitOp_ust (o : WaitOperand) (s : State) : (s.waitOp o).ust = .wait := rfl
@[simp] theorem State.waitOp_upc (o : WaitOperand) (s : State) : (s.waitOp o).upc = s.upc := rfl
@[simp] theorem State.waitOp_cnt (o : WaitOperand) (s : State) : (s.waitOp o).cnt = s.cnt := rfl
@[simp] theorem State.waitOp_tmr (o : WaitOperand) (s : State) : (s.waitOp o).tmr = o.value s := rfl
@[simp] theorem State.waitOp_pre (o : WaitOperand) (s : State) : (s.waitOp o).pre = 0 := rfl
@[simp] theorem State.waitOp_a0 (o : WaitOperand) (s : State) : (s.waitOp o).a0 = s.a0 := rfl
@[simp] theorem State.waitOp_a1 (o : WaitOperand) (s : State) : (s.waitOp o).a1 = s.a1 := rfl
@[simp] theorem State.waitOp_lineEn (o : WaitOperand) (s : State) : (s.waitOp o).lineEn = s.lineEn := rfl
@[simp] theorem State.waitOp_lineRst (o : WaitOperand) (s : State) : (s.waitOp o).lineRst = s.lineRst := rfl
@[simp] theorem State.waitOp_buf (o : WaitOperand) (s : State) : (s.waitOp o).buf = s.buf := rfl
@[simp] theorem State.waitOp_rd (o : WaitOperand) (s : State) : (s.waitOp o).rd = s.rd := rfl
@[simp] theorem State.waitOp_rxPop (o : WaitOperand) (s : State) : (s.waitOp o).rxPop = s.rxPop := rfl
@[simp] theorem State.waitOp_reportStb (o : WaitOperand) (s : State) : (s.waitOp o).reportStb = s.reportStb := rfl
@[simp] theorem State.waitOp_doneStb (o : WaitOperand) (s : State) : (s.waitOp o).doneStb = s.doneStb := rfl
@[simp] theorem State.waitOp_evChk (o : WaitOperand) (s : State) : (s.waitOp o).evChk = s.evChk := rfl
@[simp] theorem State.waitOp_rxq (o : WaitOperand) (s : State) : (s.waitOp o).rxq = s.rxq := rfl
@[simp] theorem State.waitOp_ports (o : WaitOperand) (s : State) : (s.waitOp o).ports = s.ports := rfl
@[simp] theorem State.waitOp_upcoming (o : WaitOperand) (s : State) : (s.waitOp o).upcoming = s.upcoming := rfl
@[simp] theorem State.waitOp_cycle (o : WaitOperand) (s : State) : (s.waitOp o).cycle = s.cycle := rfl

/-! `drainOp` -/

@[simp] theorem State.drainOp_par (s : State) : (s.drainOp).par = s.par := rfl
@[simp] theorem State.drainOp_busy (s : State) : (s.drainOp).busy = s.busy := rfl
@[simp] theorem State.drainOp_opL (s : State) : (s.drainOp).opL = s.opL := rfl
@[simp] theorem State.drainOp_cancel (s : State) : (s.drainOp).cancel = s.cancel := rfl
@[simp] theorem State.drainOp_got (s : State) : (s.drainOp).got = s.got := rfl
@[simp] theorem State.drainOp_res (s : State) : (s.drainOp).res = s.res := rfl
@[simp] theorem State.drainOp_cst (s : State) : (s.drainOp).cst = s.cst := rfl
@[simp] theorem State.drainOp_sst (s : State) : (s.drainOp).sst = s.sst := rfl
@[simp] theorem State.drainOp_ust (s : State) : (s.drainOp).ust = .drain := rfl
@[simp] theorem State.drainOp_upc (s : State) : (s.drainOp).upc = s.upc := rfl
@[simp] theorem State.drainOp_cnt (s : State) : (s.drainOp).cnt = s.cnt := rfl
@[simp] theorem State.drainOp_tmr (s : State) : (s.drainOp).tmr = s.tmr := rfl
@[simp] theorem State.drainOp_pre (s : State) : (s.drainOp).pre = s.pre := rfl
@[simp] theorem State.drainOp_a0 (s : State) : (s.drainOp).a0 = s.a0 := rfl
@[simp] theorem State.drainOp_a1 (s : State) : (s.drainOp).a1 = s.a1 := rfl
@[simp] theorem State.drainOp_lineEn (s : State) : (s.drainOp).lineEn = s.lineEn := rfl
@[simp] theorem State.drainOp_lineRst (s : State) : (s.drainOp).lineRst = s.lineRst := rfl
@[simp] theorem State.drainOp_buf (s : State) : (s.drainOp).buf = s.buf := rfl
@[simp] theorem State.drainOp_rd (s : State) : (s.drainOp).rd = s.rd := rfl
@[simp] theorem State.drainOp_rxPop (s : State) : (s.drainOp).rxPop = s.rxPop := rfl
@[simp] theorem State.drainOp_reportStb (s : State) : (s.drainOp).reportStb = s.reportStb := rfl
@[simp] theorem State.drainOp_doneStb (s : State) : (s.drainOp).doneStb = s.doneStb := rfl
@[simp] theorem State.drainOp_evChk (s : State) : (s.drainOp).evChk = s.evChk := rfl
@[simp] theorem State.drainOp_rxq (s : State) : (s.drainOp).rxq = s.rxq := rfl
@[simp] theorem State.drainOp_ports (s : State) : (s.drainOp).ports = s.ports := rfl
@[simp] theorem State.drainOp_upcoming (s : State) : (s.drainOp).upcoming = s.upcoming := rfl
@[simp] theorem State.drainOp_cycle (s : State) : (s.drainOp).cycle = s.cycle := rfl

/-! `recvOp` -/

@[simp] theorem State.recvOp_par (s : State) : (s.recvOp).par = s.par := rfl
@[simp] theorem State.recvOp_busy (s : State) : (s.recvOp).busy = s.busy := rfl
@[simp] theorem State.recvOp_opL (s : State) : (s.recvOp).opL = s.opL := rfl
@[simp] theorem State.recvOp_cancel (s : State) : (s.recvOp).cancel = s.cancel := rfl
@[simp] theorem State.recvOp_got (s : State) : (s.recvOp).got = false := rfl
@[simp] theorem State.recvOp_res (s : State) : (s.recvOp).res = s.res := rfl
@[simp] theorem State.recvOp_cst (s : State) : (s.recvOp).cst = s.cst := rfl
@[simp] theorem State.recvOp_sst (s : State) : (s.recvOp).sst = s.sst := rfl
@[simp] theorem State.recvOp_ust (s : State) : (s.recvOp).ust = .hunt := rfl
@[simp] theorem State.recvOp_upc (s : State) : (s.recvOp).upc = s.upc := rfl
@[simp] theorem State.recvOp_cnt (s : State) : (s.recvOp).cnt = 0 := rfl
@[simp] theorem State.recvOp_tmr (s : State) : (s.recvOp).tmr = s.tmr := rfl
@[simp] theorem State.recvOp_pre (s : State) : (s.recvOp).pre = s.pre := rfl
@[simp] theorem State.recvOp_a0 (s : State) : (s.recvOp).a0 = s.a0 := rfl
@[simp] theorem State.recvOp_a1 (s : State) : (s.recvOp).a1 = s.a1 := rfl
@[simp] theorem State.recvOp_lineEn (s : State) : (s.recvOp).lineEn = s.lineEn := rfl
@[simp] theorem State.recvOp_lineRst (s : State) : (s.recvOp).lineRst = s.lineRst := rfl
@[simp] theorem State.recvOp_buf (s : State) : (s.recvOp).buf = s.buf := rfl
@[simp] theorem State.recvOp_rd (s : State) : (s.recvOp).rd = s.rd := rfl
@[simp] theorem State.recvOp_rxPop (s : State) : (s.recvOp).rxPop = s.rxPop := rfl
@[simp] theorem State.recvOp_reportStb (s : State) : (s.recvOp).reportStb = s.reportStb := rfl
@[simp] theorem State.recvOp_doneStb (s : State) : (s.recvOp).doneStb = s.doneStb := rfl
@[simp] theorem State.recvOp_evChk (s : State) : (s.recvOp).evChk = s.evChk := rfl
@[simp] theorem State.recvOp_rxq (s : State) : (s.recvOp).rxq = s.rxq := rfl
@[simp] theorem State.recvOp_ports (s : State) : (s.recvOp).ports = s.ports := rfl
@[simp] theorem State.recvOp_upcoming (s : State) : (s.recvOp).upcoming = s.upcoming := rfl
@[simp] theorem State.recvOp_cycle (s : State) : (s.recvOp).cycle = s.cycle := rfl

end Sys2Proof.Machine
end

