-- ==== Sys2Proof/Laws/Ops.lean ====
section
/-! SUPPORT. What each shared operation can do, said once: the provers cite these instead of unfolding it. -/

namespace Sys2Proof.Machine

/-! ### The timer -/

/-- An expired timer stands still (60_exceptions.md R195). -/
theorem State.tick_of_expired {s : State} (h : s.tmr = 0) : s.tick = s := by simp [State.tick, h]

/-- A tick that ends a millisecond (60_exceptions.md R195). -/
theorem State.tick_of_last {s : State} (h : s.tmr ≠ 0) (hp : s.pre = s.par.nMs - 1) :
    s.tick = { s with pre := 0, tmr := s.tmr - 1 } := by rw [State.tick, if_neg h, if_pos hp]

/-- A tick within a millisecond (60_exceptions.md R195). -/
theorem State.tick_of_within {s : State} (h : s.tmr ≠ 0) (hp : s.pre ≠ s.par.nMs - 1) :
    s.tick = { s with pre := s.pre + 1 } := by rw [State.tick, if_neg h, if_neg hp]

/-- `expired` is `tmr == 0` (60_exceptions.md R195). -/
@[simp] theorem State.expired_iff (s : State) : s.expired = true ↔ s.tmr = 0 := by simp [State.expired]

/-- There is at least one cycle in a millisecond (00_scope.md R6). -/
theorem Params.nMs_pos (p : Params) : 0 < p.nMs := Nat.succ_pos _

/-! ### The stream -/

/-- A byte is popped exactly when one is held and the stream does not fail (20_memory.md R64). -/
theorem State.streamPop_eq_some_iff {s t : State} {b : Byte} :
    s.streamPop = some (b, t) ↔
      s.ports.rxFail = false ∧ ∃ rest, s.rxq = b :: rest ∧ t = { s with rxq := rest, rxPop := true } := by
  unfold State.streamPop
  split
  · rename_i c rest hf hq
    simp only [Option.some.injEq, Prod.mk.injEq, hq, hf, List.cons.injEq, true_and]
    constructor
    · rintro ⟨rfl, rfl⟩; exact ⟨rest, ⟨rfl, rfl⟩, rfl⟩
    · rintro ⟨rest', ⟨rfl, rfl⟩, rfl⟩; exact ⟨rfl, rfl⟩
  · rename_i hno
    simp only [reduceCtorEq, false_iff, not_and, not_exists]
    intro hf rest hq _
    exact hno b rest hf hq

/-- No byte is popped in a cycle without one, or in which the stream fails (20_memory.md R64, R65). -/
theorem State.streamPop_eq_none_iff {s : State} : s.streamPop = none ↔ s.ports.rxFail = true ∨ s.rxq = [] := by
  rcases hf : s.ports.rxFail <;> rcases hq : s.rxq with _ | ⟨b, rest⟩ <;> simp [State.streamPop, hf, hq]

/-! ### The lines -/

/-- The enable line after it is driven (10_state.md R36). -/
theorem State.driveEn_lineEn (level : Bool) (s : State) :
    (s.driveEn level).lineEn = if s.par.hasEn then level else s.lineEn := by
  unfold State.driveEn; split <;> rfl

/-- The reset line after it is driven (10_state.md R37). -/
theorem State.driveRst_lineRst (level : Bool) (s : State) :
    (s.driveRst level).lineRst = if s.par.hasRst then level else s.lineRst := by
  unfold State.driveRst; split <;> rfl

/-! ### Commands -/

/-- A command at the port is taken whole or leaves no trace (30_encoding.md R92, 70_reset_and_hazards.md R216). -/
theorem offer_eq_next_iff {taken : State → State} {s t : State} :
    offer taken s = .next t ↔ (s.busy = true ∧ t = s) ∨ (s.busy = false ∧ t = taken s) := by
  cases h : s.busy <;> simp [offer, h, eq_comm]

/-- The U_CHECK cycle of a frame (42_synchronizer.md R115). -/
theorem execFrame_eq_next_iff {f : Frame} {s t : State} :
    execFrame f s = .next t ↔
      ((decodeBuf f.toBuf).1 = true ∧ t = { s with rd := (decodeBuf f.toBuf).2, got := true, res := .ok, ust := .idle }) ∨
      ((decodeBuf f.toBuf).1 = false ∧ t = { s.discardToHunt with evChk := true }) := by
  unfold execFrame
  rcases decodeBuf f.toBuf with ⟨_ | _, fields⟩ <;> simp [eq_comm]

/-- DECODE of a buffer's own frame reads the buffer (41_decoder.md R100). -/
theorem decodeBuf_toBuf_ofBuf (b : Vector Byte 32) : decodeBuf (Frame.ofBuf b).toBuf = decodeBuf b := by
  rw [Frame.toBuf_ofBuf]

/-! ### The micro-routines -/

/-- What a cycle of U_SETTLE can do (43_controller.md R133). -/
theorem State.settleCycle_cases (s : State) :
    (s.tmr = 0 ∧ s.settleCycle = { s.driveRst true with cst := if s.par.hasEn then .enabled else .suspended, ust := .idle }) ∨
    (s.tmr ≠ 0 ∧ s.settleCycle = s.tick) := by
  by_cases h : s.tmr = 0
  · exact .inl ⟨h, by rw [State.settleCycle, if_pos (s.expired_iff.2 h)]⟩
  · exact .inr ⟨h, by rw [State.settleCycle, if_neg (mt s.expired_iff.1 h)]⟩

/-- What a cycle of U_WAIT can do (43_controller.md R138). -/
theorem State.waitCycle_cases (s : State) :
    (s.cancel = true ∧ s.waitCycle = s.cancelWait) ∨
    (s.cancel = false ∧ s.tmr = 0 ∧ s.waitCycle = { s with ust := .idle }) ∨
    (s.cancel = false ∧ s.tmr ≠ 0 ∧ s.waitCycle = s.tick) := by
  cases hc : s.cancel
  · by_cases h : s.tmr = 0
    · exact .inr (.inl ⟨rfl, h, by simp only [State.waitCycle, hc, if_pos (s.expired_iff.2 h)]; rfl⟩)
    · exact .inr (.inr ⟨rfl, h, by simp only [State.waitCycle, hc, if_neg (mt s.expired_iff.1 h)]; rfl⟩)
  · exact .inl ⟨rfl, by simp only [State.waitCycle, hc]; rfl⟩

/-- What a cycle of U_DRAIN can do (43_controller.md R139). -/
theorem State.drainCycle_cases (s : State) :
    (∃ b rest, s.ports.rxFail = false ∧ s.rxq = b :: rest ∧ s.drainCycle = { s with rxq := rest, rxPop := true }) ∨
    ((s.ports.rxFail = true ∨ s.rxq = []) ∧ s.drainCycle = { s with ust := .idle }) := by
  unfold State.drainCycle
  split
  · rename_i b t h
    obtain ⟨hf, rest, hq, rfl⟩ := State.streamPop_eq_some_iff.1 h
    exact .inl ⟨b, rest, hf, hq, rfl⟩
  · rename_i h
    exact .inr ⟨State.streamPop_eq_none_iff.1 h, rfl⟩

/-- What a cycle of U_HUNT can do (42_synchronizer.md R112). -/
theorem State.huntCycle_cases (s : State) :
    (s.cancel = true ∧ s.huntCycle = s.failReceive .cancelled) ∨
    (s.cancel = false ∧ s.ports.rxFail = true ∧ s.huntCycle = s.failReceive .streamFail) ∨
    (∃ rest, s.cancel = false ∧ s.ports.rxFail = false ∧ s.rxq = mark0Byte :: rest ∧
      s.huntCycle = { s with
        rxq := rest, rxPop := true, tmr := tShortMs, pre := 0, buf := s.buf.set 0 mark0Byte, cnt := 1, ust := .mark2 }) ∨
    (∃ b rest, s.cancel = false ∧ s.ports.rxFail = false ∧ b ≠ mark0Byte ∧ s.rxq = b :: rest ∧
      s.huntCycle = { s with rxq := rest, rxPop := true }) ∨
    (s.cancel = false ∧ s.ports.rxFail = false ∧ s.rxq = [] ∧ s.huntCycle = s) := by
  rcases hc : s.cancel
  · rcases hf : s.ports.rxFail
    · rcases hq : s.rxq with _ | ⟨b, rest⟩
      · simp [State.huntCycle, State.rxFail, State.streamPop, hc, hf, hq]
      · by_cases hb : b = mark0Byte <;> simp [State.huntCycle, State.rxFail, State.streamPop, State.load, hc, hf, hq, hb]
    · simp [State.huntCycle, State.rxFail, hc, hf]
  · simp [State.huntCycle, hc]

/-- What a cycle of U_MARK2 can do (42_synchronizer.md R113). -/
theorem State.mark2Cycle_cases (s : State) :
    (s.ports.rxFail = true ∧ s.mark2Cycle = s.failReceive .streamFail) ∨
    (∃ rest, s.ports.rxFail = false ∧ s.cancel = true ∧ s.rxq = mark1Byte :: rest ∧
      s.mark2Cycle = { s with
        rxq := rest, rxPop := true, got := false, res := .cancelled, cnt := 0, ust := .idle }) ∨
    (∃ rest, s.ports.rxFail = false ∧ s.cancel = false ∧ s.rxq = mark1Byte :: rest ∧
      s.mark2Cycle = { s with
        rxq := rest, rxPop := true, tmr := tShortMs, pre := 0, buf := s.buf.set 1 mark1Byte, cnt := 2, ust := .body }) ∨
    (∃ b rest, s.ports.rxFail = false ∧ b ≠ mark1Byte ∧ s.rxq = b :: rest ∧
      s.mark2Cycle = { s with rxq := rest, rxPop := true, cnt := 0, ust := .hunt }) ∨
    (s.ports.rxFail = false ∧ s.rxq = [] ∧ s.tmr = 0 ∧ s.mark2Cycle = s.discardToHunt) ∨
    (s.ports.rxFail = false ∧ s.rxq = [] ∧ s.tmr ≠ 0 ∧ s.mark2Cycle = s.tick) := by
  rcases hf : s.ports.rxFail
  · rcases hq : s.rxq with _ | ⟨b, rest⟩
    · by_cases ht : s.tmr = 0
      · have he := s.expired_iff.2 ht
        simp [State.mark2Cycle, State.rxFail, State.streamPop, hf, hq, he, ht]
      · have he : s.expired = false := Bool.eq_false_iff.2 (mt s.expired_iff.1 ht)
        right; right; right; right; right
        exact ⟨rfl, rfl, ht, by simp [State.mark2Cycle, State.rxFail, State.streamPop, hf, hq, he]⟩
    · by_cases hb : b = mark1Byte
      · rcases hc : s.cancel <;>
          simp [State.mark2Cycle, State.rxFail, State.streamPop, State.load, State.failReceive, hf, hq, hb, hc]
      · right; right; right; left
        exact ⟨b, rest, rfl, hb, rfl, by
          simp [State.mark2Cycle, State.rxFail, State.streamPop, State.discardToHunt, hf, hq, hb]⟩
  · simp [State.mark2Cycle, State.rxFail, hf]

/-- What a cycle of U_BODY can do (42_synchronizer.md R114). -/
theorem State.bodyCycle_cases (s : State) :
    (s.ports.rxFail = true ∧ s.bodyCycle = .next (s.failReceive .streamFail)) ∨
    (∃ b rest, s.ports.rxFail = false ∧ s.rxq = b :: rest ∧ ∃ h : s.cnt.toNat < 32,
      s.bodyCycle = .next (State.tick { s with
        rxq := rest, rxPop := true, buf := s.buf.set s.cnt.toNat b h, cnt := s.cnt + 1
        ust := if s.cnt + 1 = frameLen then .check else s.ust })) ∨
    (∃ b rest, s.ports.rxFail = false ∧ s.rxq = b :: rest ∧ 32 ≤ s.cnt.toNat ∧ s.bodyCycle = .fault .frameOffset) ∨
    (s.ports.rxFail = false ∧ s.rxq = [] ∧ s.tmr = 0 ∧ s.bodyCycle = .next s.discardToHunt) ∨
    (s.ports.rxFail = false ∧ s.rxq = [] ∧ s.tmr ≠ 0 ∧ s.bodyCycle = .next s.tick) := by
  rcases hf : s.ports.rxFail
  · rcases hq : s.rxq with _ | ⟨b, rest⟩
    · by_cases ht : s.tmr = 0
      · have he := s.expired_iff.2 ht
        simp [State.bodyCycle, State.rxFail, State.streamPop, hf, hq, he, ht]
      · have he : s.expired = false := Bool.eq_false_iff.2 (mt s.expired_iff.1 ht)
        right; right; right; right
        exact ⟨rfl, rfl, ht, by simp [State.bodyCycle, State.rxFail, State.streamPop, hf, hq, he]⟩
    · by_cases h : s.cnt.toNat < 32
      · right; left
        exact ⟨b, rest, rfl, rfl, h, by
          simp [State.bodyCycle, State.storeBody, State.rxFail, State.streamPop, hf, hq, h]⟩
      · right; right; left
        exact ⟨b, rest, rfl, rfl, by omega, by
          simp [State.bodyCycle, State.storeBody, State.rxFail, State.streamPop, hf, hq, h]⟩
  · simp [State.bodyCycle, State.rxFail, hf]

end Sys2Proof.Machine
end

