-- ==== Sys2Proof/Laws/PerInstr.lean ====
section
/-! SUPPORT. The family Encoding, stated per instruction. -/

namespace Sys2Proof.Laws.Encoding

/-- An instruction is encoded in the bytes of its format: 32 for a frame (30_encoding.md R80), 9 for a command word
(R86, R94). -/
def Statement (i : Instr) : Prop :=
  (encode i).length = match i with
    | .frame _ => 32
    | .reset _ _ | .enable _ _ | .disable _ _ | .warmup _ _ | .receive _ _ | .oneshot _ _ | .monitor _ _ => 9
    | .reserved0 _ _ | .reserved8 _ _ | .reserved9 _ _ | .reserved10 _ _ | .reserved11 _ _ => 9
    | .reserved12 _ _ | .reserved13 _ _ | .reserved14 _ _ | .reserved15 _ _ => 9

theorem frame (f : Frame) : Statement (.frame f) := f.length_toBytes

theorem reset (arg0 arg1 : Word) : Statement (.reset arg0 arg1) := length_bytesOfNat 9 _

theorem enable (arg0 arg1 : Word) : Statement (.enable arg0 arg1) := length_bytesOfNat 9 _

theorem disable (arg0 arg1 : Word) : Statement (.disable arg0 arg1) := length_bytesOfNat 9 _

theorem warmup (arg0 arg1 : Word) : Statement (.warmup arg0 arg1) := length_bytesOfNat 9 _

theorem receive (arg0 arg1 : Word) : Statement (.receive arg0 arg1) := length_bytesOfNat 9 _

theorem oneshot (arg0 arg1 : Word) : Statement (.oneshot arg0 arg1) := length_bytesOfNat 9 _

theorem monitor (arg0 arg1 : Word) : Statement (.monitor arg0 arg1) := length_bytesOfNat 9 _

theorem reserved0 (arg0 arg1 : Word) : Statement (.reserved0 arg0 arg1) := length_bytesOfNat 9 _

theorem reserved8 (arg0 arg1 : Word) : Statement (.reserved8 arg0 arg1) := length_bytesOfNat 9 _

theorem reserved9 (arg0 arg1 : Word) : Statement (.reserved9 arg0 arg1) := length_bytesOfNat 9 _

theorem reserved10 (arg0 arg1 : Word) : Statement (.reserved10 arg0 arg1) := length_bytesOfNat 9 _

theorem reserved11 (arg0 arg1 : Word) : Statement (.reserved11 arg0 arg1) := length_bytesOfNat 9 _

theorem reserved12 (arg0 arg1 : Word) : Statement (.reserved12 arg0 arg1) := length_bytesOfNat 9 _

theorem reserved13 (arg0 arg1 : Word) : Statement (.reserved13 arg0 arg1) := length_bytesOfNat 9 _

theorem reserved14 (arg0 arg1 : Word) : Statement (.reserved14 arg0 arg1) := length_bytesOfNat 9 _

theorem reserved15 (arg0 arg1 : Word) : Statement (.reserved15 arg0 arg1) := length_bytesOfNat 9 _

end Sys2Proof.Laws.Encoding
end

