-- ==== Sys2Proof/Laws/Step.lean ====
section
/-! SUPPORT. What a step can do, said once. -/

namespace Sys2Proof.Machine

/-- A step that answers a next state fired the cycle's rule and ended the cycle (44_session.md R150). -/
theorem step_eq_next_iff {s t : State} :
    step s = .next t ↔ ∃ u, fire s.rule s.beginCycle = .next u ∧ t = u.endCycle := by
  unfold step
  rcases fire s.rule s.beginCycle with u | f | r <;> simp [finish, eq_comm]

/-- The order of the cases of 44_session.md R150. -/
theorem State.rule_of_rst {s : State} (h : s.ports.rst = true) : s.rule = .rst := by simp [State.rule, h]

theorem State.rule_of_busy {s : State} (h : s.ports.rst = false) (hb : s.busy = true) : s.rule = s.busyRule := by
  simp [State.rule, h, hb]

theorem State.rule_of_command {s : State} (h : s.ports.rst = false) (hb : s.busy = false) (hv : s.ports.cmdValid = true) :
    s.rule = .instr s.portCommand := by simp [State.rule, h, hb, hv]

theorem State.rule_of_idle {s : State} (h : s.ports.rst = false) (hb : s.busy = false) (hv : s.ports.cmdValid = false) :
    s.rule = .idle := by simp [State.rule, h, hb, hv]

/-- A run of one cycle more begins with a step. -/
theorem runCycles_succ (n : Nat) {s t : State} (h : step s = .next t) : runCycles (n + 1) s = runCycles n t := by
  simp [runCycles, h]

/-- A run goes on from where a shorter run ended. -/
theorem runCycles_add {m : Nat} (n : Nat) {s t : State} (h : runCycles m s = .next t) :
    runCycles (m + n) s = runCycles n t := by
  induction m generalizing s with
  | zero =>
    simp only [runCycles, Host.Outcome.next.injEq] at h
    subst h; simp
  | succ m ih =>
    rw [Nat.add_right_comm, runCycles]
    rw [runCycles] at h
    rcases hs : step s with u | f | r <;> simp only [hs] at h ⊢
    · exact ih h
    · cases h
    · cases h

end Sys2Proof.Machine
end

