-- ==== Sys2Proof/Tests/Slice0.lean ====
section
/-! SUPPORT. The model's own tests: words written out from the spec's encodings, its worked vectors, and a witness for
the hypotheses of every statement that has some. Expected values come from spec/, named beside each test. -/

namespace Sys2Proof.Tests

open Sys2Proof Sys2Proof.Machine

/-! ### Helpers -/

/-- `n` cycles in which nothing happens at the ports. -/
def quietCycles (n : Nat) : List EnvCycle := List.replicate n ⟨Ports.quiet, []⟩

/-- Both lines present, one cycle a millisecond: the convention of 95_test_vectors.md. -/
def both : Params := ⟨0, true, true⟩

/-- A block after reset. -/
def fresh (p : Params) : State := { State.resetWith p with upcoming := quietCycles 8 }

/-- A busy block in micro-state `u` at row `n`. -/
def at_ (u : Ust) (n : RowNum) : State := { fresh both with busy := true, ust := u, upc := n }

/-- An idle block with a command at its port. -/
def offering (op : BitVec 4) (arg0 : Word) (p : Params) : State :=
  { fresh p with ports := { Ports.quiet with cmdValid := true, cmdOp := op, cmdArg0 := arg0 } }

/-- Quiet cycles ahead satisfy what the coming ports and quiet ports satisfy. -/
theorem ahead_quietCycles {k n : Nat} {p : Ports → Bool} {s : State} (hu : s.upcoming = quietCycles n)
    (hs : p s.ports = true) (hp : p Ports.quiet = true) (hk : k ≤ n + 1) : Ahead k p s := by
  have hall : ∀ x ∈ s.portsAhead, p x = true := by
    simp [State.portsAhead, hu, quietCycles, hs, hp]
  exact ⟨by simpa [State.portsAhead, hu, quietCycles] using hk,
    List.all_eq_true.mpr fun x hx => hall x (List.mem_of_mem_take hx)⟩

/-- The same with `n` quiet cycles listed. -/
def offeringFor (n : Nat) (op : BitVec 4) (arg0 : Word) (p : Params) : State :=
  { offering op arg0 p with upcoming := quietCycles n }

/-- An answer is a next state that satisfies `p`. -/
def nextIs (a : Answer) (p : State → Bool) : Bool :=
  match a with
  | .next t => p t
  | .fault _ | .refused _ => false

/-- Frame f1 of 95_test_vectors.md. -/
def f1 : Vector Byte 32 :=
  #v[0x42, 0x4D, 0x00, 0x1C, 0x00, 0x00, 0x00, 0x01, 0x00, 0x02, 0x00, 0x03, 0x00, 0x04, 0x00, 0x05,
     0x00, 0x06, 0x00, 0x07, 0x00, 0x08, 0x00, 0x09, 0x00, 0x0A, 0x00, 0x0B, 0x00, 0x0C, 0x00, 0xF9]

/-- Frame f6 of 95_test_vectors.md. -/
def f6 : Vector Byte 32 :=
  #v[0x42, 0x4D, 0x00, 0x1C, 0x00, 0x05, 0x12, 0x34, 0xAB, 0xCD, 0x00, 0xFF, 0xFF, 0x00, 0x00, 0x0A,
     0x00, 0x14, 0x00, 0x1E, 0x01, 0x2C, 0x00, 0xC8, 0x00, 0x64, 0x00, 0x32, 0x00, 0x19, 0x06, 0x4C]

/-! ### Words written out (30_encoding.md R80, R86, R90, R91, R95) -/

theorem test_decode_reset : decodeTableWord 72 0x10000000000000000 = some (.reset 0 0) := by decide

theorem test_decode_enable : decodeTableWord 72 0x20000000000000000 = some (.enable 0 0) := by decide

theorem test_decode_disable : decodeTableWord 72 0x30000000000000000 = some (.disable 0 0) := by decide

theorem test_decode_warmup : decodeTableWord 72 0x4000000000000001E = some (.warmup 30 0) := by decide

theorem test_decode_receive : decodeTableWord 72 0x50000000000000000 = some (.receive 0 0) := by decide

theorem test_decode_oneshot : decodeTableWord 72 0x60000000000000014 = some (.oneshot 20 0) := by decide

theorem test_decode_monitor : decodeTableWord 72 0x70000003C0000000A = some (.monitor 10 60) := by decide

theorem test_decode_reserved0 : decodeTableWord 72 0x000000001FFFFFFFF = some (.reserved0 0xFFFFFFFF 1) := by decide

theorem test_decode_reserved8 : decodeTableWord 72 0x80000000200000001 = some (.reserved8 1 2) := by decide

theorem test_decode_reserved9 : decodeTableWord 72 0x90000000200000001 = some (.reserved9 1 2) := by decide

theorem test_decode_reserved10 : decodeTableWord 72 0xA0000000200000001 = some (.reserved10 1 2) := by decide

theorem test_decode_reserved11 : decodeTableWord 72 0xB0000000200000001 = some (.reserved11 1 2) := by decide

theorem test_decode_reserved12 : decodeTableWord 72 0xC0000000200000001 = some (.reserved12 1 2) := by decide

theorem test_decode_reserved13 : decodeTableWord 72 0xD0000000200000001 = some (.reserved13 1 2) := by decide

theorem test_decode_reserved14 : decodeTableWord 72 0xE0000000200000001 = some (.reserved14 1 2) := by decide

theorem test_decode_reserved15 : decodeTableWord 72 0xF0000000200000001 = some (.reserved15 1 2) := by decide

/-- Frame f6: HDR1 = 5, field 0 = 0x1234, field 3 = 0xFF00 (95_test_vectors.md D6). -/
theorem test_decode_frame :
    decodeTableWord 256 0x424D001C00051234ABCD00FFFF00000A0014001E012C00C8006400320019064C =
      some (.frame ⟨0x42, 0x4D, 0x001C, 5, #v[0x1234, 0xABCD, 0xFF, 0xFF00, 10, 20, 30, 300, 200, 100, 50, 25], 0x064C⟩) := by
  decide

/-- The encoder writes the word of 30_encoding.md R95's example, nine bytes. -/
theorem test_encode_monitor : encode (.monitor 30000 60000) = [0x07, 0x00, 0x00, 0xEA, 0x60, 0x00, 0x00, 0x75, 0x30] := by
  decide

/-- A bit above the 68 of a command word is rejected by name (30_encoding.md R86). -/
theorem test_decode_padding : decode [0x10, 0, 0, 0, 0, 0, 0, 0, 0] = .error .padding := by decide

/-- Bytes of no format's length are rejected by name (30_encoding.md R94). -/
theorem test_decode_length : decode [0x42, 0x4D] = .error (.length 2) := by decide

/-! ### WellFormed: an ill-formed term for each check (30_encoding.md R81) -/

theorem test_wellFormed_frame : (Instr.frame (Frame.ofBuf f1)).wellFormed = true := by decide

theorem test_illFormed_mark0 : (Instr.frame { Frame.ofBuf f1 with mark0 := 0x4D }).wellFormed = false := by decide

theorem test_illFormed_mark1 : (Instr.frame { Frame.ofBuf f1 with mark1 := 0x42 }).wellFormed = false := by decide

/-! ### DECODE (95_test_vectors.md section 2.1) -/

theorem test_decodeBuf_d1 : decodeBuf f1 = (true, #v[1, 2, 3, 4, 5, 6, 7, 8, 9, 10, 11, 12]) := by decide

theorem test_decodeBuf_d4 : (decodeBuf (f1.set 31 0xF8)).1 = false := by decide

theorem test_decodeBuf_d5 : (decodeBuf (f1.set 7 0x03)).1 = false := by decide

theorem test_decodeBuf_d6 :
    decodeBuf f6 = (true, #v[4660, 43981, 255, 65280, 10, 20, 30, 300, 200, 100, 50, 25]) := by decide

theorem test_decodeBuf_d7 : decodeBuf (Vector.replicate 32 0) = (true, Vector.replicate 12 0) := by decide

/-- A command's word placed at the port is taken by the very next step (30_encoding.md R92). -/
theorem test_fetch_command :
    nextIs (step (State.reset.withFetchWord 72 0x70000003C0000000A))
      (fun t => t.busy && t.opL = 7 && t.a0 = 10 && t.a1 = 60 && t.upc = 16) = true := by decide

/-- A frame's word placed in BUF is checked by the very next step (42_synchronizer.md R115). -/
theorem test_fetch_frame :
    nextIs (step (State.reset.withFetchWord 256 0x424D001C00051234ABCD00FFFF00000A0014001E012C00C8006400320019064C))
      (fun t => t.got && t.ust = .idle && t.rd[3] = 0xFF00 && t.rd[11] = 25) = true := by decide

/-! ### One step each (95_test_vectors.md sections 2.2, 2.3, 3) -/

/-- C1a: the RST row lowers the reset line. -/
theorem test_rst_row : nextIs (step (at_ .idle 1)) (fun t => !t.lineRst && t.cst = .resetting && t.ust = .rsten) = true := by
  decide

/-- C1c: without a reset line the RST row writes nothing. -/
theorem test_rst_row_absent :
    nextIs (step { at_ .idle 1 with par := ⟨0, false, true⟩ }) (fun t => t.lineRst && t.cst = .suspended && t.ust = .idle) =
      true := by decide

/-- C1b: the pulse's end with no enable line leaves SUSPENDED. -/
theorem test_settle_end :
    nextIs (step { at_ .settle 0 with par := ⟨0, true, false⟩, lineRst := false })
      (fun t => t.lineRst && t.cst = .suspended && t.ust = .idle) = true := by decide

/-- C2: the EN row. -/
theorem test_en_row : nextIs (step (at_ .idle 2)) (fun t => t.lineEn && t.cst = .enabled && t.upc = 0) = true := by decide

/-- C2: the DIS row. -/
theorem test_dis_row :
    nextIs (step { at_ .idle 3 with lineEn := true }) (fun t => !t.lineEn && t.cst = .disabled && t.upc = 0) = true := by decide

/-- C4: a wait sees the flag, not the timer. -/
theorem test_wait_cancel :
    nextIs (step { at_ .wait 5 with tmr := 980, cancel := true }) (fun t => t.res = .cancelled && t.ust = .idle) = true := by
  decide

/-- C3: the drain drops one byte a cycle. -/
theorem test_drain : nextIs (step { at_ .drain 0 with rxq := [1, 2] }) (fun t => t.rxPop && t.rxq = [2] && t.ust = .drain) =
    true := by decide

/-- S2: the second 0x42 fails the 4D test and is dropped. -/
theorem test_mark2_stray :
    nextIs (step { at_ .mark2 0 with cnt := 1, tmr := 99, rxq := [0x42, 0x4D] })
      (fun t => t.ust = .hunt && t.cnt = 0 && t.rxq = [0x4D]) = true := by decide

/-- S10: a byte available when the timer has expired is still taken. -/
theorem test_body_expired :
    nextIs (step { at_ .body 0 with cnt := 12, tmr := 0, rxq := [7] })
      (fun t => t.ust = .body && t.cnt = 13 && t.buf[12] = 7) = true := by decide

/-- S5: an Invalid frame pulses `ev_chk`. -/
theorem test_check_invalid :
    nextIs (step { at_ .check 0 with cnt := 32, buf := f1.set 31 0xF8 }) (fun t => t.evChk && t.ust = .hunt && t.rd[0] = 0) =
      true := by decide

/-- P3: with `a1 = a0` the session takes the continuous path. -/
theorem test_bnosleep_equal :
    nextIs (step { at_ .idle 24 with a0 := 10, a1 := 10 }) (fun t => t.upc = 28 && t.sst = .cooling) = true := by decide

/-- P2: 60 > 10, the power-saving path. -/
theorem test_bnosleep_greater :
    nextIs (step { at_ .idle 24 with a0 := 10, a1 := 60 }) (fun t => t.upc = 25) = true := by decide

/-- P2: the sleep is 50 ms. -/
theorem test_sleep_row :
    nextIs (step { at_ .idle 26 with a0 := 10, a1 := 60 }) (fun t => t.tmr = 50 && t.ust = .wait && t.upc = 27) = true := by
  decide

/-- C5: a reserved opcode is taken and set to complete with ILLEGAL. -/
theorem test_reserved : nextIs (step (offering 9 0 both)) (fun t => t.busy && t.upc = 0 && t.res = .illegal) = true := by decide

/-- The ports of an accepted ENABLE cycle: ready, no strobe (00_scope.md R11). -/
theorem test_outputs :
    nextIs (step (offering 2 0 both)) (fun t =>
      (cycleOutputs (offering 2 0 both) t).cmdReady && !(cycleOutputs (offering 2 0 both) t).doneStb) = true := by decide

/-! ### Witnesses: the hypotheses of each statement are met together -/

theorem witness_EncodedInstructionsDecode : (Instr.warmup 5 0).wellFormed = true ∧ (Instr.frame (Frame.ofBuf f6)).wellFormed = true := by
  decide

theorem witness_DecodedBytesEncodeBack : decode [0x02, 0, 0, 0, 1, 0, 0, 0, 2] = .ok (.enable 2 1) ∧
    decode f1.toList = .ok (.frame (Frame.ofBuf f1)) := by decide

theorem witness_DecoderRejectsByName : f1[0] = 0x42 ∧ f1[1] = 0x4D ∧
    (2 ^ 68 ≤ natOfBytes [0x10, 0, 0, 0, 0, 0, 0, 0, 0]) ∧ ¬((f1.set 1 0x42)[0] = 0x42 ∧ (f1.set 1 0x42)[1] = 0x4D) ∧
    ([] : List Byte).length ≠ 9 ∧ ([] : List Byte).length ≠ 32 := by decide

theorem witness_DecodeComparesTheSums : 0x1D < (f1.set 30 0x1E)[30].toNat := by decide

theorem witness_OneChangedByteIsInvalid : (decodeBuf f1).1 = true ∧ (0x03 : Byte) ≠ f1[7] ∧ (0x43 : Byte) ≠ f1[0] ∧
    (1 : Byte) ≠ f1[29] ∧ ¬((0 : Byte) = f1[30] ∧ (0xF8 : Byte) = f1[31]) := by decide

theorem witness_FrameCycleLoadsOrDiscards : Running .check { at_ .check 0 with buf := f1 } ∧
    Running .check { at_ .check 0 with buf := f1.set 31 0xF8 } ∧ checksum (Frame.ofBuf f1).toBytes = (Frame.ofBuf f1).chk := by
  decide

theorem witness_StepRunsTheDecodedInstruction :
    ((offering 4 7 both).ports.rst = false ∧ (offering 4 7 both).busy = false ∧ (offering 4 7 both).ports.cmdValid = true ∧
      decode (commandBytes 4 7 0) = .ok (.warmup 7 0)) ∧
    (({ at_ .check 0 with buf := f1 } : State).busy = true ∧ decode f1.toList = .ok (.frame (Frame.ofBuf f1))) := by decide

theorem witness_CommandsAreAccepted : (fresh both).busy = false := by decide

theorem witness_BusyBlockIgnoresTheCommandPort : (at_ .hunt 0).busy = true := by decide

theorem witness_AcceptanceCycle : (at_ .hunt 0).ports.rst = false ∧ (at_ .hunt 0).busy = true ∧
    (fresh both).ports.rst = false ∧ (fresh both).busy = false ∧ (fresh both).ports.cmdValid = false ∧
    (offering 7 10 both).ports.rst = false ∧ (offering 7 10 both).busy = false ∧ (offering 7 10 both).ports.cmdValid = true ∧
    (offering 8 0 both).ports.cmdValid = true ∧ (offering 0 0 both).ports.cmdValid = true ∧
    (offering 7 10 both).ust = .idle ∧ ∃ t, step (at_ .idle 0) = .next t ∧ t.doneStb = true := by
  refine ⟨by decide, by decide, by decide, by decide, by decide, by decide, by decide, by decide, by decide, by decide, by decide, _, rfl, by decide⟩

theorem witness_ResetCycleFromAnyState : ({ at_ .body 13 with ports := { Ports.quiet with rst := true } } : State).ports.rst = true := by
  decide

/-- A next state exists, for every statement whose hypothesis is a step. -/
theorem witness_step : (fresh both).ports.rst = false ∧ ∃ t, step (fresh both) = .next t := ⟨by decide, _, rfl⟩

theorem witness_CancelIsSticky : ∃ t, ({ at_ .drain 0 with ports := { Ports.quiet with rst := true } } : State).ports.rst = true ∧
    step { at_ .drain 0 with ports := { Ports.quiet with rst := true } } = .next t := ⟨_, by decide, rfl⟩

theorem witness_OnlyAValidCheckWritesRd : ∃ t, step { at_ .check 0 with buf := f1 } = .next t ∧ (decodeBuf f1).1 = true :=
  ⟨_, rfl, by decide⟩

theorem witness_ArgumentsAreSampledOnce : (∃ t, step (offering 7 10 both) = .next t) ∧
    ¬((at_ .idle 4).busy = false ∧ (at_ .idle 4).ports.cmdValid = true) := ⟨⟨_, rfl⟩, by decide⟩

theorem witness_BytesLeaveTheStreamOnlyByPops :
    (∃ t, step { at_ .drain 0 with rxq := [1] } = .next t ∧ t.rxPop = true) ∧
    (∃ t, step { at_ .settle 0 with rxq := [1] } = .next t ∧ t.rxPop = false) := ⟨⟨_, rfl, rfl⟩, ⟨_, rfl, rfl⟩⟩

theorem witness_AbsentLinesAreNeverDriven :
    (∃ t, step { at_ .idle 7 with par := ⟨0, false, true⟩ } = .next t) ∧ Running .idle { at_ .idle 7 with par := ⟨0, false, true⟩ } ∧
    (rowAt 7).op = .rst ∧ (∃ t, step { at_ .idle 15 with par := ⟨0, true, false⟩ } = .next t) ∧ (rowAt 15).op = .dis ∧
    (rowAt 33).op = .en := ⟨⟨_, rfl⟩, by decide, by decide, ⟨_, rfl⟩, by decide, by decide⟩

theorem witness_StepStopsOnlyAtAMissingOffset : Running .body { at_ .body 0 with cnt := 32, rxq := [1] } ∧
    32 ≤ ({ at_ .body 0 with cnt := 32, rxq := [1] } : State).cnt.toNat ∧
    step { at_ .body 0 with cnt := 32, rxq := [1] } = .fault .frameOffset := ⟨by decide, by decide, rfl⟩

theorem witness_RecvRowStartsAReceive : Running .idle (at_ .idle 6) ∧ Running .idle (at_ .idle 12) ∧
    ((21, 22, .reading) : RowNum × RowNum × Sst) ∈ ([(6, 0, .init), (12, 13, .reading), (21, 22, .reading)] : List (RowNum × RowNum × Sst)) := by
  decide

theorem witness_HuntCycle : Running .hunt (at_ .hunt 0) := by decide

theorem witness_MarkCycle : Running .mark2 { at_ .mark2 0 with cnt := 1 } := by decide

theorem witness_BodyCycle : Running .body { at_ .body 0 with cnt := 2 } ∧ 2 ≤ ({ at_ .body 0 with cnt := 2 } : State).cnt.toNat ∧
    Running .body { at_ .body 0 with cnt := 31 } ∧ ({ at_ .body 0 with cnt := 31 } : State).cnt.toNat ≤ 31 := by decide

theorem witness_ShortWindowClosesInTime :
    let s : State := { at_ .body 0 with tmr := 100, cnt := 2, upcoming := quietCycles 100 }
    Running .body s ∧ s.tmr = 100 ∧ s.pre = 0 ∧ s.rxq = [] ∧ Ahead (100 * s.par.nMs + 1) Ports.noFail s ∧
      NoArrivals (100 * s.par.nMs) s := by decide

theorem witness_StrayMarkerByteHidesAFrame :
    let s : State := { at_ .hunt 0 with rxq := [0x42, 0x42, 0x4D, 7] }
    Running .hunt s ∧ s.cancel = false ∧ s.rxq = [0x42, 0x42, 0x4D] ++ [7] ∧ Ahead 3 Ports.calm s := by decide

theorem witness_ResetPulseBegins : Running .idle (at_ .idle 1) ∧ Running .idle (at_ .idle 32) ∧ Running .rsten (at_ .rsten 0) := by
  decide

theorem witness_ResetPulseHasItsLength : Running .settle (at_ .settle 0) ∧ (at_ .settle 0).par.hasRst = true ∧
    (let s : State := { at_ .idle 32 with upcoming := quietCycles 102 }
     Running .idle s ∧ (rowAt s.upc).op = .rst ∧ s.par.hasRst = true ∧ Ahead (100 * s.par.nMs + 3) Ports.noReset s) := by decide

theorem witness_EnableAndDisableRows : Running .idle (at_ .idle 33) ∧ Running .idle (at_ .idle 31) := by decide

theorem witness_WaitRowsStartAWait : Running .idle (at_ .idle 4) ∧
    (let s : State := { at_ .idle 26 with a0 := 10, a1 := 60 }
     Running .idle s ∧ (s.upc = 26 → s.a0 < s.a1)) := by decide

theorem witness_WaitTakesItsTime :
    (let s : State := { at_ .wait 5 with tmr := 5 }
     Running .wait s ∧ s.pre = 0 ∧ s.cancel = false ∧ Ahead (s.tmr.toNat * s.par.nMs + 1) Ports.noCancel s) ∧
    (let s : State := at_ .wait 5
     Running .wait s ∧ s.pre = 0 ∧ s.cancel = false ∧ Ahead (s.tmr.toNat * s.par.nMs + 1) Ports.noCancel s) ∧
    Running .wait { at_ .wait 5 with cancel := true } := by decide

theorem witness_DrainRowsAndCycle : Running .idle (at_ .idle 5) ∧ Running .idle (at_ .idle 19) ∧ Running .drain (at_ .drain 0) := by
  decide

theorem witness_FinRow : Running .idle (at_ .idle 0) ∧ (at_ .idle 0).upc = 0 := by decide

theorem witness_BranchRows : Running .idle (at_ .idle 9) ∧ Running .idle (at_ .idle 13) ∧ Running .idle (at_ .idle 22) ∧
    Running .idle (at_ .idle 24) ∧ Running .idle (at_ .idle 27) := by decide

theorem witness_ReportAndNopRows : Running .idle (at_ .idle 14) ∧ Running .idle (at_ .idle 23) ∧ Running .idle (at_ .idle 30) := by
  decide

theorem witness_StrobesNameTheirRules : (∃ t, step (at_ .idle 0) = .next t ∧ t.doneStb = true) ∧
    (∃ t, step (at_ .idle 14) = .next t ∧ t.reportStb = true) := ⟨⟨_, rfl, rfl⟩, ⟨_, rfl, rfl⟩⟩

theorem witness_OutputsShowTheRegisters : (fresh both).ports.rst = false ∧ (fresh both).busy = false ∧
    ({ fresh both with ports := { Ports.quiet with rst := true } } : State).ports.rst = true := by decide

/-- A labelled row after a change, and the cycle after a reset cycle, for the two clauses. -/
theorem witness_OutputsChangeOnlyByTheirRules :
    (at_ .idle 15).ports.rst = false ∧ ({ at_ .body 13 with ports := { Ports.quiet with rst := true } } : State).ports.rst = true ∧
    (∃ t u, step (at_ .idle 15) = .next t ∧ step t = .next u ∧ (cycleOutputs t u).stSst = 5 ∧ (cycleOutputs t u).stCst = 3) ∧
    ∃ t u, step { at_ .body 13 with ports := { Ports.quiet with rst := true } } = .next t ∧ step t = .next u :=
  ⟨by decide, by decide, ⟨_, _, rfl, rfl, by decide, by decide⟩, ⟨_, _, rfl, rfl⟩⟩

theorem witness_TimerCountsMilliseconds : (∃ t, step { at_ .wait 5 with tmr := 2 } = .next t ∧ t.tmr = 1) ∧
    ∃ t, step { at_ .idle 18 with a0 := 7 } = .next t ∧ t.tmr = 7 := ⟨⟨_, rfl, rfl⟩, ⟨_, rfl, rfl⟩⟩

theorem witness_CandidateIsGatheredInOrder :
    FrameInv { at_ .body 0 with cnt := 31, buf := f1, rxq := [0xF9] } ∧
    ∃ t, step { at_ .body 0 with cnt := 31, buf := f1, rxq := [0xF9] } = .next t := ⟨by decide, _, rfl⟩

theorem witness_GatheringNeverStops : FrameInv { at_ .check 0 with cnt := 32, buf := f1 } := by decide

theorem witness_LinesAgreeWithTheController :
    LineInv { at_ .settle 0 with cst := .resetting, lineRst := false, lineEn := true } ∧
    ∃ t, step { at_ .settle 0 with cst := .resetting, lineRst := false, lineEn := true } = .next t := ⟨by decide, _, rfl⟩

theorem witness_TimerStaysInItsRange : TimerInv { at_ .mark2 0 with tmr := 100 } ∧
    ∃ t, step { at_ .mark2 0 with tmr := 100 } = .next t := ⟨by decide, _, rfl⟩

theorem witness_SleepPeriodIsPositiveWhereFormed : SequencerInv { at_ .idle 24 with a0 := 10, a1 := 60 } ∧
    ∃ t, step { at_ .idle 24 with a0 := 10, a1 := 60 } = .next t := ⟨by decide, _, rfl⟩

theorem witness_EveryExitRunsTheFinalizer : FinalizerInv { at_ .idle 15 with opL := 6 } ∧
    ∃ t, step { at_ .idle 15 with opL := 6 } = .next t := ⟨⟨fun _ _ => .inl (by decide), fun _ h => absurd h (by decide)⟩, _, rfl⟩

theorem witness_SessionsEndDisabled :
    FinalizerInv { at_ .idle 0 with opL := 7, sst := .done, cst := .disabled } ∧
    ∃ t, step { at_ .idle 0 with opL := 7, sst := .done, cst := .disabled } = .next t ∧ t.doneStb = true :=
  ⟨⟨fun _ h => absurd h (by decide), fun _ _ => .inr (by decide)⟩, _, rfl, rfl⟩

theorem witness_EnableAndDisableRunToTheirEnd : Offered 2 (offering 2 0 both) ∧ Offered 3 (offering 3 0 both) ∧
    Ahead 3 Ports.noReset (offering 2 0 both) := by decide

theorem witness_ReservedCommandCompletesIllegal : Offered 0 (offering 0 0 both) ∧ Offered 8 (offering 8 0 both) ∧
    (8 : BitVec 4) ≤ 15 ∧ Ahead 2 Ports.noReset (offering 15 0 both) := by decide

theorem witness_ResetCommandRunsToItsEnd :
    (Offered 1 (offeringFor 104 1 0 both) ∧ Ahead (100 * both.nMs + 5) Ports.noReset (offeringFor 104 1 0 both)) ∧
    (Offered 1 (offering 1 0 ⟨0, false, true⟩) ∧ Ahead 3 Ports.noReset (offering 1 0 ⟨0, false, true⟩)) := by decide

theorem witness_WarmupCommandRunsToItsEnd :
    (let s := offeringFor 10 4 5 both
     Offered 4 s ∧ s.rxq = [] ∧ s.cancel = false ∧ Ahead (s.ports.cmdArg0.toNat * s.par.nMs + 6) Ports.noCancel s ∧
      NoArrivals (s.ports.cmdArg0.toNat * s.par.nMs + 5) s) ∧
    (let s : State := { offering 4 5 both with cancel := true }
     Offered 4 s ∧ s.rxq = [] ∧ s.cancel = true ∧ Ahead 6 Ports.noReset s ∧ NoArrivals 5 s) := by decide

theorem witness_ReceiveCommandReturnsABufferedFrame :
    let s : State := { offeringFor 35 5 0 both with rxq := f6.toList }
    Offered 5 s ∧ s.cancel = false ∧
      s.rxq = (encodeReading #v[4660, 43981, 255, 65280, 10, 20, 30, 300, 200, 100, 50, 25] 0x1C 5).toBytes ++ [] ∧
      Ahead 36 Ports.calm s := by decide

theorem witness_OneshotReportsABufferedFrame :
    let s : State := { offeringFor 41 6 0 ⟨0, false, true⟩ with rxq := f6.toList }
    Offered 6 s ∧ s.ports.cmdArg0 = 0 ∧ s.cancel = false ∧
      s.rxq = (encodeReading #v[4660, 43981, 255, 65280, 10, 20, 30, 300, 200, 100, 50, 25] 0x1C 5).toBytes ++ [] ∧
      Ahead 42 Ports.calm s := by decide

theorem witness_OneshotReportsABufferedFrame_resetLine :
    let s : State := { offeringFor 143 6 0 both with rxq := f6.toList }
    Offered 6 s ∧ s.ports.cmdArg0 = 0 ∧ s.cancel = false ∧ s.par.hasRst = true ∧
      s.rxq = (encodeReading #v[4660, 43981, 255, 65280, 10, 20, 30, 300, 200, 100, 50, 25] 0x1C 5).toBytes ++ [] ∧
      Ahead (100 * s.par.nMs + 2 + 42) Ports.calm s :=
  ⟨by decide, rfl, rfl, rfl, by decide, ahead_quietCycles rfl rfl rfl (by decide)⟩

theorem witness_CancelledMonitorCleansUp_resetLine :
    let s : State := { offeringFor 111 7 10 both with cancel := true }
    Offered 7 s ∧ s.cancel = true ∧ s.rxq = [] ∧ s.par.hasRst = true ∧ Ahead (100 * s.par.nMs + 2 + 10) Ports.noReset s ∧
      NoArrivals (100 * s.par.nMs + 2 + 9) s := by decide

theorem witness_CancelledMonitorCleansUp :
    let s : State := { offeringFor 9 7 10 ⟨0, false, true⟩ with cancel := true }
    Offered 7 s ∧ s.cancel = true ∧ s.rxq = [] ∧ Ahead 10 Ports.noReset s ∧ NoArrivals 9 s := by decide

end Sys2Proof.Tests
end

section
/-! PROOFS. The family 00_scope.md: the strobes name the rules that raise them, and the output ports show the
registers. -/

namespace Sys2Proof.Machine

/-! ### The codes of the status outputs tell their values apart (10_state.md R31 to R33, 60_exceptions.md R182) -/

theorem Cst.code_injective : Function.Injective Cst.code :=
  Function.LeftInverse.injective (g := fun v => Cst.ofNat v.toNat) fun c => by cases c <;> rfl

theorem Sst.code_injective : Function.Injective Sst.code :=
  Function.LeftInverse.injective (g := fun v => Sst.ofNat v.toNat) fun c => by cases c <;> rfl

theorem Ust.code_injective : Function.Injective Ust.code :=
  Function.LeftInverse.injective (g := fun v => Ust.ofNat v.toNat) fun c => by cases c <;> rfl

theorem Res.code_injective : Function.Injective Res.code :=
  Function.LeftInverse.injective (g := fun v => Res.ofNat v.toNat) fun c => by cases c <;> rfl

theorem stCst_eq_iff {s t : State} {c : Cst} {v : BitVec 2} (h : c.code = v) :
    (cycleOutputs s t).stCst = v ↔ s.cst = c := Cst.code_injective.eq_iff' h

theorem stSst_eq_iff {s t : State} {c : Sst} {v : BitVec 3} (h : c.code = v) :
    (cycleOutputs s t).stSst = v ↔ s.sst = c := Sst.code_injective.eq_iff' h

theorem stUst_eq_iff {s t : State} {c : Ust} {v : BitVec 4} (h : c.code = v) :
    (cycleOutputs s t).stUst = v ↔ s.ust = c := Ust.code_injective.eq_iff' h

theorem result_eq_iff {s t : State} {c : Res} {v : BitVec 2} (h : c.code = v) :
    (cycleOutputs s t).result = v ↔ s.res = c := Res.code_injective.eq_iff' h

/-! ### `cmd_ready` (00_scope.md R9, 70_reset_and_hazards.md R210) -/

theorem State.cmdReady_iff (s : State) : s.cmdReady = true ↔ s.busy = false := by simp [State.cmdReady]

theorem cmdReady_of_noRst {s t : State} (h : s.ports.rst = false) : (cycleOutputs s t).cmdReady = s.cmdReady := by
  simp [cycleOutputs, State.gateByReset, h]

theorem cmdReady_of_rst {s t : State} (h : s.ports.rst = true) : (cycleOutputs s t).cmdReady = false := by
  simp [cycleOutputs, State.gateByReset, h]

/-! ### The strobes a rule raises (00_scope.md R11) -/

/-- The three strobes that report an event; `rx_pop`, the fourth, belongs to the stream. -/
structure EventStrobes where
  done : Bool
  report : Bool
  chk : Bool

/-- The event strobes a state shows. -/
def State.events (s : State) : EventStrobes := ⟨s.doneStb, s.reportStb, s.evChk⟩

theorem State.events_eq_iff {s : State} {d r c : Bool} :
    s.events = ⟨d, r, c⟩ ↔ s.doneStb = d ∧ s.reportStb = r ∧ s.evChk = c := by
  simp [State.events]

@[simp] theorem State.beginCycle_events (s : State) : s.beginCycle.events = ⟨false, false, false⟩ := rfl

@[simp] theorem State.endCycle_events (s : State) : s.endCycle.events = s.events := rfl

@[simp] theorem State.tick_events (s : State) : s.tick.events = s.events := by simp [State.events]

@[simp] theorem State.driveEn_events (level : Bool) (s : State) : (s.driveEn level).events = s.events := by
  simp [State.events]

@[simp] theorem State.driveRst_events (level : Bool) (s : State) : (s.driveRst level).events = s.events := by
  simp [State.events]

theorem State.rstOp_events (s : State) : s.rstOp.events = s.events := by
  unfold State.rstOp
  split
  · exact s.driveRst_events false
  · rfl

theorem State.enOp_events (s : State) : s.enOp.events = s.events := by
  unfold State.enOp
  split
  · exact s.driveEn_events true
  · rfl

theorem State.disOp_events (s : State) : s.disOp.events = s.events := by
  unfold State.disOp
  split
  · exact s.driveEn_events false
  · rfl

theorem State.settleCycle_events (s : State) : s.settleCycle.events = s.events := by
  obtain ⟨-, h⟩ | ⟨-, h⟩ := s.settleCycle_cases <;> rw [h]
  · exact s.driveRst_events true
  · exact s.tick_events

theorem State.waitCycle_events (s : State) : s.waitCycle.events = s.events := by
  obtain ⟨-, h⟩ | ⟨-, -, h⟩ | ⟨-, -, h⟩ := s.waitCycle_cases <;> rw [h]
  · rfl
  · rfl
  · exact s.tick_events

theorem State.drainCycle_events (s : State) : s.drainCycle.events = s.events := by
  obtain ⟨_, _, -, -, h⟩ | ⟨-, h⟩ := s.drainCycle_cases <;> rw [h] <;> rfl

theorem State.huntCycle_events (s : State) : s.huntCycle.events = s.events := by
  obtain ⟨-, h⟩ | ⟨-, -, h⟩ | ⟨_, -, -, -, h⟩ | ⟨_, _, -, -, -, -, h⟩ | ⟨-, -, -, h⟩ := s.huntCycle_cases <;>
    rw [h] <;> rfl

theorem State.mark2Cycle_events (s : State) : s.mark2Cycle.events = s.events := by
  obtain ⟨-, h⟩ | ⟨_, -, -, -, h⟩ | ⟨_, -, -, -, h⟩ | ⟨_, _, -, -, -, h⟩ | ⟨-, -, -, h⟩ | ⟨-, -, -, h⟩ :=
    s.mark2Cycle_cases <;> rw [h]
  case inr.inr.inr.inr.inr => exact s.tick_events
  all_goals rfl

theorem State.bodyCycle_events {s t : State} (h : s.bodyCycle = .next t) : t.events = s.events := by
  obtain ⟨-, hb⟩ | ⟨_, _, -, -, _, hb⟩ | ⟨_, _, -, -, -, hb⟩ | ⟨-, -, -, hb⟩ | ⟨-, -, -, hb⟩ := s.bodyCycle_cases <;>
    rw [hb] at h <;> cases h
  · rfl
  · exact State.tick_events _
  · rfl
  · exact s.tick_events

/-- Taking a command or ignoring it raises no event if the taking raises none. -/
theorem offer_events {taken : State → State} {s t : State} (htaken : (taken s).events = s.events)
    (h : offer taken s = .next t) : t.events = s.events := by
  obtain ⟨-, rfl⟩ | ⟨-, rfl⟩ := offer_eq_next_iff.1 h
  · rfl
  · exact htaken

/-- A command raises no event in the cycle it is offered in: only DECODE does. -/
theorem exec_events_of_command {i : Instr} (hi : ∀ f, i ≠ .frame f) {s t : State} (h : exec i s = .next t) :
    t.events = s.events := by
  cases i
  case frame f => exact absurd rfl (hi f)
  case oneshot => exact offer_events (taken := fun s => { s.accept 6 _ _ .ok 7 with sst := .init }) rfl h
  case monitor => exact offer_events (taken := fun s => { s.accept 7 _ _ .ok 16 with sst := .init }) rfl h
  all_goals exact offer_events rfl h

/-- A micro-operation raises `done_stb` if it is FIN and `report_stb` if it is REPORT (44_session.md R152, R154). -/
theorem State.microOp_events (op : MicroOp) (s : State) :
    (s.microOp op).events =
      ⟨s.events.done || decide (op = .fin), s.events.report || decide (op = .report), s.events.chk⟩ := by
  cases op with
  | fin | report => simp [State.microOp, State.events]
  | rst => simpa [State.microOp] using s.rstOp_events
  | en => simpa [State.microOp] using s.enOp_events
  | dis => simpa [State.microOp] using s.disOp_events
  | bcancel target => cases h : s.cancelled <;> simp [State.microOp, State.events, h]
  | wait | drain | recv | bzw | bnogot | bnosleep | nop => simp [State.microOp, State.events]

theorem rowAt_op_eq_fin_iff : ∀ n : RowNum, (rowAt n).op = .fin ↔ n = 0 := by decide

theorem rowAt_op_eq_report_iff : ∀ n : RowNum, (rowAt n).op = .report ↔ n = 14 ∨ n = 23 := by decide

@[simp] theorem State.labelSession_events (label : Option Sst) (s : State) :
    (s.labelSession label).events = s.events := by cases label <;> rfl

/-- A row raises `done_stb` if it is row 0 and `report_stb` if it is row 14 or 23 (44_session.md R151). -/
theorem State.rowCycle_events (s : State) :
    s.rowCycle.events =
      ⟨s.events.done || decide (s.upc = 0), s.events.report || decide (s.upc = 14 ∨ s.upc = 23), s.events.chk⟩ :=
  calc s.rowCycle.events
    _ = ((s.labelSession (rowAt s.upc).sst).microOp (rowAt s.upc).op).events := rfl
    _ = _ := by
      simp only [State.microOp_events, State.labelSession_events, rowAt_op_eq_fin_iff, rowAt_op_eq_report_iff]

/-- The rules that raise an event are the sequencer's rows and DECODE; every other leaves the event strobes alone. -/
theorem fire_events_of_silent {r : CycleRule} (hrow : r ≠ .row) (hframe : ∀ f, r ≠ .instr (.frame f)) {s t : State}
    (h : fire r s = .next t) : t.events = s.events := by
  cases r with
  | row => exact absurd rfl hrow
  | instr i => exact exec_events_of_command (fun f hf => hframe f (congrArg _ hf)) h
  | body => exact State.bodyCycle_events h
  | rst | idle => cases h; rfl
  | rsten => cases h; exact s.driveEn_events true
  | settle => cases h; exact s.settleCycle_events
  | wait => cases h; exact s.waitCycle_events
  | drain => cases h; exact s.drainCycle_events
  | hunt => cases h; exact s.huntCycle_events
  | mark2 => cases h; exact s.mark2Cycle_events

/-! ### The cycles in which those rules fire (44_session.md R150) -/

theorem decodeCommand_ne_frame (op : BitVec 4) (arg0 arg1 : Word) (f : Frame) :
    decodeCommand op arg0 arg1 ≠ .frame f := by
  unfold decodeCommand
  split <;> nofun

theorem State.busyRule_eq_row_iff (s : State) : s.busyRule = .row ↔ s.ust = .idle := by
  unfold State.busyRule
  cases s.ust <;> simp

theorem State.busyRule_eq_frame_iff (s : State) (f : Frame) :
    s.busyRule = .instr (.frame f) ↔ s.ust = .check ∧ f = Frame.ofBuf s.buf := by
  unfold State.busyRule
  cases s.ust <;> simp [eq_comm]

/-- The order of 44_session.md R150, read off the ports and `busy`. -/
theorem State.rule_cases (s : State) :
    (s.ports.rst = true ∧ s.rule = .rst) ∨
    (s.ports.rst = false ∧ s.busy = true ∧ s.rule = s.busyRule) ∨
    (s.ports.rst = false ∧ s.busy = false ∧ s.ports.cmdValid = true ∧ s.rule = .instr s.portCommand) ∨
    (s.ports.rst = false ∧ s.busy = false ∧ s.ports.cmdValid = false ∧ s.rule = .idle) := by
  cases hr : s.ports.rst
  case true => exact .inl ⟨rfl, s.rule_of_rst hr⟩
  cases hb : s.busy
  case true => exact .inr (.inl ⟨rfl, rfl, s.rule_of_busy hr hb⟩)
  cases hv : s.ports.cmdValid
  · exact .inr (.inr (.inr ⟨rfl, rfl, rfl, s.rule_of_idle hr hb hv⟩))
  · exact .inr (.inr (.inl ⟨rfl, rfl, rfl, s.rule_of_command hr hb hv⟩))

theorem State.rule_eq_row_iff (s : State) : s.rule = .row ↔ Running .idle s := by
  unfold Running
  obtain ⟨hr, h⟩ | ⟨hr, hb, h⟩ | ⟨hr, hb, -, h⟩ | ⟨hr, hb, -, h⟩ := s.rule_cases
  · simp [h, hr]
  · simp [h, hr, hb, s.busyRule_eq_row_iff]
  · simp [h, hb]
  · simp [h, hb]

theorem State.rule_eq_frame_iff (s : State) (f : Frame) :
    s.rule = .instr (.frame f) ↔ Running .check s ∧ f = Frame.ofBuf s.buf := by
  unfold Running
  obtain ⟨hr, h⟩ | ⟨hr, hb, h⟩ | ⟨hr, hb, -, h⟩ | ⟨hr, hb, -, h⟩ := s.rule_cases
  · simp [h, hr]
  · simp [h, hr, hb, s.busyRule_eq_frame_iff]
  · simp [h, hb, State.portCommand, decodeCommand_ne_frame]
  · simp [h, hb]

/-! ### The events of a step -/

theorem fire_frame (f : Frame) (s : State) : fire (.instr (.frame f)) s = execFrame f s := rfl

theorem step_events_of_row {s t : State} (hrun : Running .idle s) (h : step s = .next t) :
    t.events = ⟨decide (s.upc = 0), decide (s.upc = 14 ∨ s.upc = 23), false⟩ := by
  obtain ⟨u, hfire, rfl⟩ := step_eq_next_iff.1 h
  rw [s.rule_eq_row_iff.2 hrun] at hfire
  cases hfire
  rw [State.endCycle_events, State.rowCycle_events, State.beginCycle_events, State.beginCycle_upc]
  simp only [Bool.false_or]

theorem step_events_of_check {s t : State} (hrun : Running .check s) (h : step s = .next t) :
    t.events = ⟨false, false, !(decodeBuf s.buf).1⟩ := by
  obtain ⟨u, hfire, rfl⟩ := step_eq_next_iff.1 h
  rw [(s.rule_eq_frame_iff _).2 ⟨hrun, rfl⟩, fire_frame] at hfire
  obtain ⟨hvalid, rfl⟩ | ⟨hvalid, rfl⟩ := execFrame_eq_next_iff.1 hfire <;>
    rw [decodeBuf_toBuf_ofBuf] at hvalid <;> simp [State.events, hvalid]

theorem step_events_of_silent {s t : State} (hrow : ¬ Running .idle s) (hcheck : ¬ Running .check s)
    (h : step s = .next t) : t.events = ⟨false, false, false⟩ := by
  obtain ⟨u, hfire, rfl⟩ := step_eq_next_iff.1 h
  have hsilent : u.events = s.beginCycle.events :=
    fire_events_of_silent (mt s.rule_eq_row_iff.1 hrow) (fun f hf => hcheck ((s.rule_eq_frame_iff f).1 hf).1) hfire
  rw [State.endCycle_events, hsilent, State.beginCycle_events]

/-! ### The obligations -/

/-- Settles O39, by the three kinds of cycle: only the rows and DECODE raise an event strobe. -/
theorem strobesNameTheirRules : Obligations.StrobesNameTheirRules := by
  intro s t h
  have hne : Running .idle s → ¬ Running .check s := fun hi hc => nomatch hi.2.2.symm.trans hc.2.2
  by_cases hrow : Running .idle s
  · obtain ⟨hdone, hreport, hchk⟩ := State.events_eq_iff.1 (step_events_of_row hrow h)
    simp [hdone, hreport, hchk, eq_true hrow, eq_false (hne hrow)]
  by_cases hcheck : Running .check s
  · obtain ⟨hdone, hreport, hchk⟩ := State.events_eq_iff.1 (step_events_of_check hcheck h)
    simp [hdone, hreport, hchk, eq_true hcheck, eq_false hrow]
  · obtain ⟨hdone, hreport, hchk⟩ := State.events_eq_iff.1 (step_events_of_silent hrow hcheck h)
    simp [hdone, hreport, hchk, eq_false hrow, eq_false hcheck]

/-- Settles O58: the codes tell the values apart, and a reset cycle forces `cmd_ready` alone. -/
theorem outputsShowTheRegisters : Obligations.OutputsShowTheRegisters := by
  intro s t
  exact ⟨stCst_eq_iff rfl, stCst_eq_iff rfl, stCst_eq_iff rfl, stCst_eq_iff rfl,
    stSst_eq_iff rfl, stSst_eq_iff rfl, stSst_eq_iff rfl, stSst_eq_iff rfl, stSst_eq_iff rfl, stSst_eq_iff rfl,
    stUst_eq_iff rfl, stUst_eq_iff rfl, stUst_eq_iff rfl, stUst_eq_iff rfl, stUst_eq_iff rfl, stUst_eq_iff rfl,
    stUst_eq_iff rfl, stUst_eq_iff rfl, stUst_eq_iff rfl,
    result_eq_iff rfl, result_eq_iff rfl, result_eq_iff rfl, result_eq_iff rfl,
    rfl, rfl, rfl, rfl, rfl, s.cmdReady_iff, cmdReady_of_noRst, cmdReady_of_rst, rfl, rfl, rfl, rfl⟩

end Sys2Proof.Machine
end

section
/-! PROOFS. What a cycle can do, said once: one constructor for each rule of 44_session.md R150 that answers a next
state, so that a proof about a step splits on the rule and not on the model's definitions. -/

namespace Sys2Proof.Machine

/-! ### Taking a command (30_encoding.md R92) -/

/-- The entry row of an opcode; FIN for the reserved ones (30_encoding.md R91, R92). -/
def entryRow (op : BitVec 4) : RowNum := ([0, 1, 2, 3, 4, 6, 7, 16] : List RowNum).getD op.toNat 0

/-- The result code an acceptance sets (30_encoding.md R91, R92). -/
def entryCode (op : BitVec 4) : Res := if 1 ≤ op.toNat ∧ op.toNat ≤ 7 then .ok else .illegal

/-- An idle block after it took a command (30_encoding.md R92, 44_session.md R155). -/
def State.takeCommand (op : BitVec 4) (arg0 arg1 : Word) (s : State) : State :=
  { s.accept op arg0 arg1 (entryCode op) (entryRow op) with sst := if op = 6 ∨ op = 7 then .init else s.sst }

/-- The sixteen commands are taken alike, up to the entry row, the result code and the session state. -/
theorem exec_decodeCommand (op : BitVec 4) (arg0 arg1 : Word) (s : State) :
    exec (decodeCommand op arg0 arg1) s = offer (State.takeCommand op arg0 arg1) s := by
  obtain ⟨n, hn, rfl⟩ : ∃ n < 16, op = BitVec.ofNat 4 n := ⟨op.toNat, op.isLt, by simp⟩
  interval_cases n <;> rfl

/-- No command begins in the sleep rows (44_session.md R151). -/
theorem entryRow_not_sleep : ∀ op : BitVec 4, entryRow op ≠ 25 ∧ entryRow op ≠ 26 := by decide

/-! ### Rows (44_session.md R151) -/

/-- A micro-operation finds nothing to do beside choosing the next row: its line is absent, no cancellation is pending,
or it is a branch on other registers or NOP (43_controller.md R136, 44_session.md R153, R154). -/
def MicroOp.idles (s : State) : MicroOp → Prop
  | .rst => s.par.hasRst = false
  | .en | .dis => s.par.hasEn = false
  | .bcancel _ => s.cancel = false
  | .bzw _ | .bnogot _ | .bnosleep _ | .nop => True
  | .fin | .wait _ | .drain | .recv | .report => False

/-- What a row's micro-operation makes of a state, and under which condition (44_session.md R151 to R154). -/
inductive RowEffect (s : State) : MicroOp → State → Prop
  | fin : RowEffect s .fin { s with busy := false, doneStb := true }
  | rst : s.par.hasRst = true → RowEffect s .rst { s with lineRst := false, cst := .resetting, ust := .rsten }
  | en : s.par.hasEn = true → RowEffect s .en { s with lineEn := true, cst := .enabled }
  | dis : s.par.hasEn = true → RowEffect s .dis { s with lineEn := false, cst := .disabled }
  | wait (o : WaitOperand) : RowEffect s (.wait o) { s with tmr := o.value s, pre := 0, ust := .wait }
  | drain : RowEffect s .drain { s with ust := .drain }
  | recv : RowEffect s .recv { s with got := false, cnt := 0, ust := .hunt }
  | bcancel (target : RowNum) : s.cancel = true → RowEffect s (.bcancel target) { s with res := .cancelled }
  | report : RowEffect s .report { s with reportStb := true }
  | none {op : MicroOp} : op.idles s → RowEffect s op s

theorem State.microOp_effect (op : MicroOp) (s : State) : RowEffect s op (s.microOp op) := by
  cases op with
  | fin => exact .fin
  | rst =>
    cases h : s.par.hasRst <;> simp only [State.microOp, State.rstOp, State.driveRst, h]
    · exact .none h
    · exact .rst h
  | en =>
    cases h : s.par.hasEn <;> simp only [State.microOp, State.enOp, State.driveEn, h]
    · exact .none h
    · exact .en h
  | dis =>
    cases h : s.par.hasEn <;> simp only [State.microOp, State.disOp, State.driveEn, h]
    · exact .none h
    · exact .dis h
  | wait o => exact .wait o
  | drain => exact .drain
  | recv => exact .recv
  | bcancel target =>
    cases h : s.cancelled <;> simp only [State.microOp, h]
    · exact .none h
    · exact .bcancel target h
  | report => exact .report
  | bzw | bnogot | bnosleep | nop => exact .none trivial

theorem State.labelSession_eq (label : Option Sst) (s : State) :
    s.labelSession label = { s with sst := label.getD s.sst } := by cases label <;> rfl

/-- A row labels the session, has its effect, and chooses the next row by the state it found (44_session.md R150). -/
theorem State.rowCycle_effect (s : State) :
    ∃ op v, (rowAt s.upc).op = op ∧ RowEffect { s with sst := (rowAt s.upc).sst.getD s.sst } op v ∧
      s.rowCycle = { v with upc := (rowAt s.upc).nextRow s } := by
  refine ⟨_, _, rfl, State.microOp_effect _ _, ?_⟩
  rw [State.rowCycle, State.labelSession_eq]

/-! ### The rules of a cycle (44_session.md R150) -/

theorem Running.noRst {v : Ust} {s : State} (h : Running v s) : s.ports.rst = false := h.1

theorem Running.busy {v : Ust} {s : State} (h : Running v s) : s.busy = true := h.2.1

theorem Running.ust {v : Ust} {s : State} (h : Running v s) : s.ust = v := h.2.2

/-- A cycle of a micro-routine that drives no line and loads no Reading. -/
inductive QuietCycle : State → State → Prop
  | wait {s : State} : Running .wait s → QuietCycle s s.waitCycle
  | drain {s : State} : Running .drain s → QuietCycle s s.drainCycle
  | hunt {s : State} : Running .hunt s → QuietCycle s s.huntCycle
  | mark2 {s : State} : Running .mark2 s → QuietCycle s s.mark2Cycle
  | body {s u : State} : Running .body s → s.bodyCycle = .next u → QuietCycle s u
  | invalid {s : State} : Running .check s → (decodeBuf s.buf).1 = false →
      QuietCycle s { s.discardToHunt with evChk := true }

theorem QuietCycle.noRst {s u : State} (h : QuietCycle s u) : s.ports.rst = false := by
  cases h with
  | wait hrun | drain hrun | hunt hrun | mark2 hrun | body hrun | invalid hrun => exact hrun.noRst

theorem QuietCycle.busy {s u : State} (h : QuietCycle s u) : s.busy = true := by
  cases h with
  | wait hrun | drain hrun | hunt hrun | mark2 hrun | body hrun | invalid hrun => exact hrun.busy

/-- The rules that end in a next state, each with the condition under which it fires (44_session.md R150). -/
inductive Cycle : State → State → Prop
  | reset {s : State} : s.ports.rst = true → Cycle s s.hardReset
  | idle {s : State} : s.ports.rst = false → s.busy = false → s.ports.cmdValid = false → Cycle s s
  | accept {s : State} : s.ports.rst = false → s.busy = false → s.ports.cmdValid = true →
      Cycle s (s.takeCommand s.ports.cmdOp s.ports.cmdArg0 s.ports.cmdArg1)
  | row {s : State} : Running .idle s → Cycle s s.rowCycle
  | rsten {s : State} : Running .rsten s → Cycle s s.rstenCycle
  | settle {s : State} : Running .settle s → Cycle s s.settleCycle
  | load {s : State} : Running .check s → (decodeBuf s.buf).1 = true →
      Cycle s { s with rd := (decodeBuf s.buf).2, got := true, res := .ok, ust := .idle }
  | quiet {s u : State} : QuietCycle s u → Cycle s u

/-- The U_CHECK cycle loads the Reading or goes back to the hunt (42_synchronizer.md R115). -/
theorem cycle_of_check {s u : State} (hrun : Running .check s) (h : execFrame (Frame.ofBuf s.buf) s = .next u) :
    Cycle s u := by
  obtain ⟨hvalid, rfl⟩ | ⟨hvalid, rfl⟩ := execFrame_eq_next_iff.1 h
  all_goals rw [decodeBuf_toBuf_ofBuf] at *
  · exact .load hrun hvalid
  · exact .quiet (.invalid hrun hvalid)

/-- A busy block runs a row or its micro-routine (44_session.md R150 cases 3 and 4). -/
theorem cycle_of_busy {s u : State} (hr : s.ports.rst = false) (hb : s.busy = true) (h : fire s.busyRule s = .next u) :
    Cycle s u := by
  unfold State.busyRule at h
  cases hust : s.ust <;> rw [hust] at h
  case body => exact .quiet (.body ⟨hr, hb, hust⟩ h)
  case check => exact cycle_of_check ⟨hr, hb, hust⟩ h
  all_goals cases h
  case idle => exact .row ⟨hr, hb, hust⟩
  case rsten => exact .rsten ⟨hr, hb, hust⟩
  case settle => exact .settle ⟨hr, hb, hust⟩
  case wait => exact .quiet (.wait ⟨hr, hb, hust⟩)
  case drain => exact .quiet (.drain ⟨hr, hb, hust⟩)
  case hunt => exact .quiet (.hunt ⟨hr, hb, hust⟩)
  case mark2 => exact .quiet (.mark2 ⟨hr, hb, hust⟩)

/-- The rule that a busy block's micro-state picks fires. -/
theorem rule_of_running {v : Ust} {s : State} (hrun : Running v s) :
    s.rule = ({ s with ust := v } : State).busyRule := by
  obtain ⟨hr, hb, rfl⟩ := hrun
  exact s.rule_of_busy hr hb

theorem fire_of_check {s : State} (hrun : Running .check s) : fire s.rule s = execFrame (Frame.ofBuf s.buf) s := by
  rw [(s.rule_eq_frame_iff _).2 ⟨hrun, rfl⟩, fire_frame]

theorem QuietCycle.fire {s u : State} (h : QuietCycle s u) : fire s.rule s = .next u := by
  cases h with
  | wait hrun | drain hrun | hunt hrun | mark2 hrun => rw [rule_of_running hrun]; rfl
  | body hrun hu => rwa [rule_of_running hrun]
  | invalid hrun hvalid =>
    rw [fire_of_check hrun]
    exact execFrame_eq_next_iff.2 (.inr (by rw [decodeBuf_toBuf_ofBuf]; exact ⟨hvalid, rfl⟩))

/-- The cycles are exactly what the rule of the cycle can answer. -/
theorem cycle_iff {s u : State} : Cycle s u ↔ fire s.rule s = .next u := by
  constructor
  · intro h
    cases h with
    | reset hr => rw [s.rule_of_rst hr, fire]
    | idle hr hb hv => rw [s.rule_of_idle hr hb hv, fire]
    | accept hr hb hv =>
      rw [s.rule_of_command hr hb hv, State.portCommand, fire, exec_decodeCommand]
      exact offer_eq_next_iff.2 (.inr ⟨hb, rfl⟩)
    | row hrun => rw [rule_of_running hrun]; rfl
    | rsten hrun => rw [rule_of_running hrun]; rfl
    | settle hrun => rw [rule_of_running hrun]; rfl
    | load hrun hvalid =>
      rw [fire_of_check hrun]
      exact execFrame_eq_next_iff.2 (.inl (by rw [decodeBuf_toBuf_ofBuf]; exact ⟨hvalid, rfl⟩))
    | quiet hq => exact hq.fire
  · intro h
    obtain ⟨hr, hrule⟩ | ⟨hr, hb, hrule⟩ | ⟨hr, hb, hv, hrule⟩ | ⟨hr, hb, hv, hrule⟩ := s.rule_cases <;>
      rw [hrule] at h
    · cases h
      exact .reset hr
    · exact cycle_of_busy hr hb h
    · rw [State.portCommand, fire, exec_decodeCommand] at h
      obtain ⟨hbusy, -⟩ | ⟨-, rfl⟩ := offer_eq_next_iff.1 h
      · exact nomatch hb.symm.trans hbusy
      · exact .accept hr hb hv
    · cases h
      exact .idle hr hb hv

/-- A step that answers a next state is a cycle between the fall of the strobes and the change of the inputs. -/
theorem step_iff_cycle {s t : State} : step s = .next t ↔ ∃ u, Cycle s.beginCycle u ∧ t = u.endCycle := by
  simp only [step_eq_next_iff, cycle_iff]
  rfl

/-- An invariant that reads no strobe and no input is kept by every step if every rule keeps it. -/
theorem step_keeps {I : State → Prop} (hbegin : ∀ s, I s → I s.beginCycle) (hend : ∀ u, I u → I u.endCycle)
    (hcycle : ∀ s u, I s → Cycle s u → I u) (s t : State) (hinv : I s) (hstep : step s = .next t) : I t := by
  obtain ⟨u, hc, rfl⟩ := step_iff_cycle.1 hstep
  exact hend u (hcycle _ u (hbegin s hinv) hc)

end Sys2Proof.Machine
end

section
/-! PROOFS. What the cycles leave alone: the latched command, the controller's registers, the micro-states that can
follow one another. -/

namespace Sys2Proof.Machine

/-! ### The registers a cycle keeps -/

/-- What a running command finds as its acceptance left it (10_state.md R34), the Reading, the parameters, and the
ports and the cancellation flag, which move at the end of a cycle: few rules write any of these. -/
structure Latched where
  par : Params
  ports : Ports
  cancel : Bool
  opL : BitVec 4
  a0 : Word
  a1 : Word
  rd : Vector Half 12

/-- What the sequencer and the controller hold: no quiet cycle writes it. -/
structure Control where
  latched : Latched
  busy : Bool
  upc : RowNum
  cst : Cst
  sst : Sst
  lineEn : Bool
  lineRst : Bool

def State.latched (s : State) : Latched := ⟨s.par, s.ports, s.cancel, s.opL, s.a0, s.a1, s.rd⟩

def State.control (s : State) : Control := ⟨s.latched, s.busy, s.upc, s.cst, s.sst, s.lineEn, s.lineRst⟩

theorem State.latched_eq_iff {s t : State} : t.latched = s.latched ↔
    t.par = s.par ∧ t.ports = s.ports ∧ t.cancel = s.cancel ∧ t.opL = s.opL ∧ t.a0 = s.a0 ∧ t.a1 = s.a1 ∧
      t.rd = s.rd := by
  simp [State.latched]

theorem State.control_eq_iff {s t : State} : t.control = s.control ↔ t.latched = s.latched ∧
    t.busy = s.busy ∧ t.upc = s.upc ∧ t.cst = s.cst ∧ t.sst = s.sst ∧ t.lineEn = s.lineEn ∧ t.lineRst = s.lineRst := by
  simp [State.control]

@[simp] theorem State.tick_latched (s : State) : s.tick.latched = s.latched := by simp [State.latched]

@[simp] theorem State.tick_control (s : State) : s.tick.control = s.control := by simp [State.control]

@[simp] theorem State.driveEn_latched (level : Bool) (s : State) : (s.driveEn level).latched = s.latched := by
  simp [State.latched]

@[simp] theorem State.driveRst_latched (level : Bool) (s : State) : (s.driveRst level).latched = s.latched := by
  simp [State.latched]

theorem State.settleCycle_latched (s : State) : s.settleCycle.latched = s.latched := by
  obtain ⟨-, h⟩ | ⟨-, h⟩ := s.settleCycle_cases <;> rw [h]
  · exact s.driveRst_latched true
  · exact s.tick_latched

theorem State.rowCycle_latched (s : State) : s.rowCycle.latched = s.latched := by
  obtain ⟨op, v, -, heffect, hrow⟩ := s.rowCycle_effect
  rw [hrow]
  cases heffect <;> rfl

theorem State.waitCycle_control (s : State) : s.waitCycle.control = s.control := by
  obtain ⟨-, h⟩ | ⟨-, -, h⟩ | ⟨-, -, h⟩ := s.waitCycle_cases <;> rw [h]
  · rfl
  · rfl
  · exact s.tick_control

theorem State.drainCycle_control (s : State) : s.drainCycle.control = s.control := by
  obtain ⟨_, _, -, -, h⟩ | ⟨-, h⟩ := s.drainCycle_cases <;> rw [h] <;> rfl

theorem State.huntCycle_control (s : State) : s.huntCycle.control = s.control := by
  obtain ⟨-, h⟩ | ⟨-, -, h⟩ | ⟨_, -, -, -, h⟩ | ⟨_, _, -, -, -, -, h⟩ | ⟨-, -, -, h⟩ := s.huntCycle_cases <;>
    rw [h] <;> rfl

theorem State.mark2Cycle_control (s : State) : s.mark2Cycle.control = s.control := by
  obtain ⟨-, h⟩ | ⟨_, -, -, -, h⟩ | ⟨_, -, -, -, h⟩ | ⟨_, _, -, -, -, h⟩ | ⟨-, -, -, h⟩ | ⟨-, -, -, h⟩ :=
    s.mark2Cycle_cases <;> rw [h]
  case inr.inr.inr.inr.inr => exact s.tick_control
  all_goals rfl

theorem State.bodyCycle_control {s u : State} (h : s.bodyCycle = .next u) : u.control = s.control := by
  obtain ⟨-, hb⟩ | ⟨_, _, -, -, _, hb⟩ | ⟨_, _, -, -, -, hb⟩ | ⟨-, -, -, hb⟩ | ⟨-, -, -, hb⟩ := s.bodyCycle_cases <;>
    rw [hb] at h <;> cases h
  · rfl
  · exact State.tick_control _
  · rfl
  · exact s.tick_control

theorem QuietCycle.control {s u : State} (h : QuietCycle s u) : u.control = s.control := by
  cases h with
  | wait => exact s.waitCycle_control
  | drain => exact s.drainCycle_control
  | hunt => exact s.huntCycle_control
  | mark2 => exact s.mark2Cycle_control
  | body _ hu => exact State.bodyCycle_control hu
  | invalid => rfl

theorem QuietCycle.latched {s u : State} (h : QuietCycle s u) : u.latched = s.latched :=
  congrArg Control.latched h.control

/-- An idle block has a command at its port (30_encoding.md R92). -/
def State.accepts (s : State) : Prop := s.busy = false ∧ s.ports.cmdValid = true

/-- The candidate in BUF is in its U_CHECK cycle and valid (42_synchronizer.md R115). -/
def State.loads (s : State) : Prop := s.busy = true ∧ s.ust = .check ∧ (decodeBuf s.buf).1 = true

theorem QuietCycle.not_loads {s u : State} (h : QuietCycle s u) : ¬s.loads := by
  cases h with
  | wait hrun | drain hrun | hunt hrun | mark2 hrun | body hrun => simp [State.loads, hrun.ust]
  | invalid _ hvalid => simp [State.loads, hvalid]

/-- Only a reset, the acceptance of a command and the load of a Reading write what is latched (10_state.md R21,
70_reset_and_hazards.md R218). -/
theorem Cycle.latched_cases {s u : State} (h : Cycle s u) :
    (s.ports.rst = true ∧ u = s.hardReset) ∨
    (s.ports.rst = false ∧ s.accepts ∧ u = s.takeCommand s.ports.cmdOp s.ports.cmdArg0 s.ports.cmdArg1) ∨
    (s.ports.rst = false ∧ s.loads ∧
      u = { s with rd := (decodeBuf s.buf).2, got := true, res := .ok, ust := .idle }) ∨
    (s.ports.rst = false ∧ ¬s.accepts ∧ ¬s.loads ∧ u.latched = s.latched) := by
  have kept (hr : s.ports.rst = false) (hb : s.busy = true) (hload : ¬s.loads) (hu : u.latched = s.latched) :
      s.ports.rst = false ∧ ¬s.accepts ∧ ¬s.loads ∧ u.latched = s.latched :=
    ⟨hr, by simp [State.accepts, hb], hload, hu⟩
  cases h with
  | reset hr => exact .inl ⟨hr, rfl⟩
  | accept hr hb hv => exact .inr (.inl ⟨hr, ⟨hb, hv⟩, rfl⟩)
  | load hrun hvalid => exact .inr (.inr (.inl ⟨hrun.noRst, ⟨hrun.busy, hrun.ust, hvalid⟩, rfl⟩))
  | idle hr hb hv => exact .inr (.inr (.inr ⟨hr, by simp [State.accepts, hv], by simp [State.loads, hb], rfl⟩))
  | row hrun =>
    exact .inr (.inr (.inr (kept hrun.noRst hrun.busy (by simp [State.loads, hrun.ust]) s.rowCycle_latched)))
  | rsten hrun =>
    exact .inr (.inr (.inr (kept hrun.noRst hrun.busy (by simp [State.loads, hrun.ust]) (s.driveEn_latched true))))
  | settle hrun =>
    exact .inr (.inr (.inr (kept hrun.noRst hrun.busy (by simp [State.loads, hrun.ust]) s.settleCycle_latched)))
  | quiet hq =>
    exact .inr (.inr (.inr (kept hq.noRst hq.busy hq.not_loads hq.latched)))

/-- No rule writes the parameters or the ports (00_scope.md R7). -/
theorem Cycle.par_ports {s u : State} (h : Cycle s u) : u.par = s.par ∧ u.ports = s.ports := by
  obtain ⟨-, rfl⟩ | ⟨-, -, rfl⟩ | ⟨-, -, rfl⟩ | ⟨-, -, -, hlatched⟩ := h.latched_cases
  · exact ⟨rfl, rfl⟩
  · exact ⟨rfl, rfl⟩
  · exact ⟨rfl, rfl⟩
  · obtain ⟨hpar, hports, -⟩ := State.latched_eq_iff.1 hlatched
    exact ⟨hpar, hports⟩

/-- No rule but a reset writes the cancellation flag (10_state.md R28). -/
theorem Cycle.cancel {s u : State} (h : Cycle s u) (hr : s.ports.rst = false) : u.cancel = s.cancel := by
  obtain ⟨hrst, -⟩ | ⟨-, -, rfl⟩ | ⟨-, -, rfl⟩ | ⟨-, -, -, hlatched⟩ := h.latched_cases
  · exact nomatch hr.symm.trans hrst
  · rfl
  · rfl
  · obtain ⟨-, -, hcancel, -⟩ := State.latched_eq_iff.1 hlatched
    exact hcancel

/-! ### The micro-states that can follow one another (44_session.md R150) -/

/-- The micro-states before and after a quiet cycle (42_synchronizer.md R112 to R115, 43_controller.md R138, R139). -/
def quietMoves : List (Ust × Ust) :=
  [(.wait, .wait), (.wait, .idle), (.drain, .drain), (.drain, .idle),
   (.hunt, .hunt), (.hunt, .mark2), (.hunt, .idle),
   (.mark2, .mark2), (.mark2, .body), (.mark2, .hunt), (.mark2, .idle),
   (.body, .body), (.body, .check), (.body, .hunt), (.body, .idle), (.check, .hunt)]

theorem State.waitCycle_move {s : State} (hust : s.ust = .wait) : (Ust.wait, s.waitCycle.ust) ∈ quietMoves := by
  obtain ⟨-, h⟩ | ⟨-, -, h⟩ | ⟨-, -, h⟩ := s.waitCycle_cases <;> simp [h, hust, quietMoves]

theorem State.drainCycle_move {s : State} (hust : s.ust = .drain) : (Ust.drain, s.drainCycle.ust) ∈ quietMoves := by
  obtain ⟨_, _, -, -, h⟩ | ⟨-, h⟩ := s.drainCycle_cases <;> simp [h, hust, quietMoves]

theorem State.huntCycle_move {s : State} (hust : s.ust = .hunt) : (Ust.hunt, s.huntCycle.ust) ∈ quietMoves := by
  obtain ⟨-, h⟩ | ⟨-, -, h⟩ | ⟨_, -, -, -, h⟩ | ⟨_, _, -, -, -, -, h⟩ | ⟨-, -, -, h⟩ := s.huntCycle_cases <;>
    simp [h, hust, quietMoves]

theorem State.mark2Cycle_move {s : State} (hust : s.ust = .mark2) : (Ust.mark2, s.mark2Cycle.ust) ∈ quietMoves := by
  obtain ⟨-, h⟩ | ⟨_, -, -, -, h⟩ | ⟨_, -, -, -, h⟩ | ⟨_, _, -, -, -, h⟩ | ⟨-, -, -, h⟩ | ⟨-, -, -, h⟩ :=
    s.mark2Cycle_cases <;> simp [h, hust, quietMoves]

theorem State.bodyCycle_move {s u : State} (hust : s.ust = .body) (h : s.bodyCycle = .next u) :
    (Ust.body, u.ust) ∈ quietMoves := by
  obtain ⟨-, hb⟩ | ⟨_, _, -, -, _, hb⟩ | ⟨_, _, -, -, -, hb⟩ | ⟨-, -, -, hb⟩ | ⟨-, -, -, hb⟩ := s.bodyCycle_cases <;>
    rw [hb] at h <;> cases h
  · simp [quietMoves]
  · rw [State.tick_ust]
    dsimp only
    split <;> simp [hust, quietMoves]
  · simp [quietMoves]
  · simp [hust, quietMoves]

theorem QuietCycle.move {s u : State} (h : QuietCycle s u) : (s.ust, u.ust) ∈ quietMoves := by
  cases h with
  | wait hrun => exact hrun.ust ▸ State.waitCycle_move hrun.ust
  | drain hrun => exact hrun.ust ▸ State.drainCycle_move hrun.ust
  | hunt hrun => exact hrun.ust ▸ State.huntCycle_move hrun.ust
  | mark2 hrun => exact hrun.ust ▸ State.mark2Cycle_move hrun.ust
  | body hrun hu => exact hrun.ust ▸ State.bodyCycle_move hrun.ust hu
  | invalid hrun => simp [hrun.ust, quietMoves]

end Sys2Proof.Machine
end

section
/-! PROOFS. The family 10_state.md: the invariants of the frame buffer, the lines, the timer and the sequencer, which
every step keeps and which hold after reset. -/

namespace Sys2Proof.Machine

/-! ### A candidate is gathered in order (10_state.md R23, R24) -/

/-- The micro-states in which no candidate is being gathered. -/
def Ust.gathersNothing (v : Ust) : Prop := v ∈ [Ust.idle, .rsten, .settle, .wait, .drain]

theorem FrameInv.cnt_le {s : State} (h : FrameInv s) : s.cnt ≤ 32 := h.2.1

theorem FrameInv.of_gathersNothing {u : State} (hb : u.busy = true ∨ u.ust = .idle) (hust : u.ust.gathersNothing)
    (hcnt : u.cnt ≤ 32) : FrameInv u := by
  simp only [Ust.gathersNothing, List.mem_cons, List.not_mem_nil, or_false] at hust
  refine ⟨fun h => hb.resolve_left (by simp [h]), hcnt, ?_⟩
  obtain h | h | h | h | h := hust <;> simp [h]

theorem FrameInv.of_hunt {u : State} (hb : u.busy = true) (hust : u.ust = .hunt) (hcnt : u.cnt = 0) : FrameInv u := by
  simp [FrameInv, hb, hust, hcnt]

theorem FrameInv.of_body {u : State} (hb : u.busy = true) (hust : u.ust = .body) (hlow : 2 ≤ u.cnt) (hhigh : u.cnt ≤ 31)
    (hmark0 : u.buf[0] = mark0Byte) (hmark1 : u.buf[1] = mark1Byte) : FrameInv u := by
  have hle : u.cnt ≤ 32 := by bv_omega
  simp only [FrameInv, hb, hust, hmark0, hmark1, hlow, hhigh, hle, reduceCtorEq, false_imp_iff, and_self, implies_true]

theorem FrameInv.of_check {u : State} (hb : u.busy = true) (hust : u.ust = .check) (hcnt : u.cnt = 32)
    (hmark0 : u.buf[0] = mark0Byte) (hmark1 : u.buf[1] = mark1Byte) : FrameInv u := by
  simp [FrameInv, hb, hust, hcnt, hmark0, hmark1]

theorem FrameInv.tick {s : State} (h : FrameInv s) : FrameInv s.tick := by simpa [FrameInv] using h

theorem FrameInv.row {s : State} (h : FrameInv s) (hrun : Running .idle s) : FrameInv s.rowCycle := by
  obtain ⟨-, hb, hust⟩ := hrun
  have hcnt := h.cnt_le
  obtain ⟨op, v, -, heffect, hrow⟩ := s.rowCycle_effect
  rw [hrow]
  cases heffect with
  | recv => exact .of_hunt hb rfl rfl
  | fin => exact .of_gathersNothing (.inr hust) (by simp [Ust.gathersNothing, hust]) hcnt
  | rst | en | dis | wait | drain | bcancel | report | none =>
    exact .of_gathersNothing (.inl hb) (by simp [Ust.gathersNothing, hust]) hcnt

theorem FrameInv.settle {s : State} (h : FrameInv s) : FrameInv s.settleCycle := by
  obtain ⟨-, heq⟩ | ⟨-, heq⟩ := s.settleCycle_cases <;> rw [heq]
  · exact .of_gathersNothing (.inr rfl) (by simp [Ust.gathersNothing]) (by simpa using h.cnt_le)
  · exact h.tick

theorem FrameInv.wait {s : State} (h : FrameInv s) : FrameInv s.waitCycle := by
  obtain ⟨-, heq⟩ | ⟨-, -, heq⟩ | ⟨-, -, heq⟩ := s.waitCycle_cases <;> rw [heq]
  · exact .of_gathersNothing (.inr rfl) (by simp [Ust.gathersNothing]) h.cnt_le
  · exact .of_gathersNothing (.inr rfl) (by simp [Ust.gathersNothing]) h.cnt_le
  · exact h.tick

theorem FrameInv.drain {s : State} (h : FrameInv s) : FrameInv s.drainCycle := by
  obtain ⟨_, _, -, -, heq⟩ | ⟨-, heq⟩ := s.drainCycle_cases <;> rw [heq]
  · exact h
  · exact .of_gathersNothing (.inr rfl) (by simp [Ust.gathersNothing]) h.cnt_le

theorem FrameInv.failReceive (s : State) (code : Res) : FrameInv (s.failReceive code) := by simp [FrameInv]

theorem FrameInv.hunt {s : State} (h : FrameInv s) (hrun : Running .hunt s) : FrameInv s.huntCycle := by
  obtain ⟨-, hb, -⟩ := hrun
  obtain ⟨-, heq⟩ | ⟨-, -, heq⟩ | ⟨_, -, -, -, heq⟩ | ⟨_, _, -, -, -, -, heq⟩ | ⟨-, -, -, heq⟩ := s.huntCycle_cases <;>
    rw [heq]
  · exact .failReceive s _
  · exact .failReceive s _
  · simp [FrameInv, hb]
  · exact h
  · exact h

theorem FrameInv.mark2 {s : State} (h : FrameInv s) (hrun : Running .mark2 s) : FrameInv s.mark2Cycle := by
  obtain ⟨-, hb, hust⟩ := hrun
  have ⟨_, _, _, hmark2, _⟩ := h
  have hmark0 : s.buf[0] = mark0Byte := (hmark2 hust).2
  obtain ⟨-, heq⟩ | ⟨_, -, -, -, heq⟩ | ⟨_, -, -, -, heq⟩ | ⟨_, _, -, -, -, heq⟩ | ⟨-, -, -, heq⟩ | ⟨-, -, -, heq⟩ :=
    s.mark2Cycle_cases <;> rw [heq]
  · exact .failReceive s _
  · simp [FrameInv]
  · simp [FrameInv, hb, hmark0]
  · exact .of_hunt hb rfl rfl
  · exact .of_hunt hb rfl rfl
  · exact h.tick

theorem FrameInv.body {s u : State} (h : FrameInv s) (hrun : Running .body s) (hu : s.bodyCycle = .next u) :
    FrameInv u := by
  obtain ⟨-, hb, hust⟩ := hrun
  have ⟨_, _, _, _, hbody, _⟩ := h
  obtain ⟨hlow, hhigh, hmark0, hmark1⟩ := hbody hust
  obtain ⟨-, heq⟩ | ⟨b, _, -, -, hlt, heq⟩ | ⟨_, _, -, -, -, heq⟩ | ⟨-, -, -, heq⟩ | ⟨-, -, -, heq⟩ :=
    s.bodyCycle_cases <;> rw [heq] at hu <;> cases hu
  · exact .failReceive s _
  · apply FrameInv.tick
    have hmark0' : (s.buf.set s.cnt.toNat b hlt)[0] = mark0Byte :=
      (Vector.getElem_set_ne _ _ (by bv_omega)).trans hmark0
    have hmark1' : (s.buf.set s.cnt.toNat b hlt)[1] = mark1Byte :=
      (Vector.getElem_set_ne _ _ (by bv_omega)).trans hmark1
    by_cases hlast : s.cnt + 1 = frameLen
    · exact .of_check hb (if_pos hlast) hlast hmark0' hmark1'
    · exact .of_body hb ((if_neg hlast).trans hust) (by bv_omega) (by bv_omega) hmark0' hmark1'
  · exact .of_hunt hb rfl rfl
  · exact h.tick

theorem FrameInv.quiet {s u : State} (h : FrameInv s) (hq : QuietCycle s u) : FrameInv u := by
  cases hq with
  | wait => exact h.wait
  | drain => exact h.drain
  | hunt hrun => exact h.hunt hrun
  | mark2 hrun => exact h.mark2 hrun
  | body hrun hu => exact h.body hrun hu
  | invalid hrun => exact .of_hunt hrun.busy rfl rfl

theorem FrameInv.cycle {s u : State} (h : FrameInv s) (hc : Cycle s u) : FrameInv u := by
  cases hc with
  | reset => exact .of_gathersNothing (.inr rfl) (by simp [Ust.gathersNothing]) (by simp)
  | idle => exact h
  | accept _ hb =>
    exact .of_gathersNothing (.inl rfl) (by simp [Ust.gathersNothing, State.takeCommand, h.1 hb]) h.cnt_le
  | row hrun => exact h.row hrun
  | rsten hrun =>
    exact .of_gathersNothing (.inl (by simp [hrun.busy])) (by simp [Ust.gathersNothing]) (by simpa using h.cnt_le)
  | settle => exact h.settle
  | load => exact .of_gathersNothing (.inr rfl) (by simp [Ust.gathersNothing]) h.cnt_le
  | quiet hq => exact h.quiet hq

/-- Settles O41, by the rule of the cycle: each routine hands on what the next one assumes. -/
theorem candidateIsGatheredInOrder : Obligations.CandidateIsGatheredInOrder :=
  step_keeps (fun _ h => h) (fun _ h => h) fun _ _ h hc => h.cycle hc

/-! ### The lines and the controller state agree (10_state.md R36, R37; 43_controller.md R130, R136) -/

/-- The micro-states of the reset pulse (43_controller.md R132, R133). -/
def Ust.pulses (v : Ust) : Prop := v = .rsten ∨ v = .settle

/-- A quiet cycle neither runs in the reset pulse nor begins one. -/
theorem QuietCycle.not_pulses {s u : State} (h : QuietCycle s u) : ¬s.ust.pulses ∧ ¬u.ust.pulses := by
  have table : ∀ move ∈ quietMoves, ¬(move.1 = .rsten ∨ move.1 = .settle) ∧ ¬(move.2 = .rsten ∨ move.2 = .settle) := by
    decide
  exact table _ h.move

theorem LineInv.of_lines_kept {s u : State} (h : LineInv s) (hs : ¬s.ust.pulses) (hu : ¬u.ust.pulses)
    (hpar : u.par = s.par) (hcst : u.cst = s.cst) (hen : u.lineEn = s.lineEn) (hrst : u.lineRst = s.lineRst) :
    LineInv u := by
  simp only [Ust.pulses, not_or] at hs hu
  simpa [LineInv, hpar, hcst, hen, hrst, hs, hu] using h

theorem LineInv.tick {s : State} (h : LineInv s) : LineInv s.tick := by simpa [LineInv] using h

theorem LineInv.row {s : State} (h : LineInv s) (hrun : Running .idle s) : LineInv s.rowCycle := by
  obtain ⟨-, -, hust⟩ := hrun
  have ⟨habsentEn, _, hlow, _⟩ := h
  have hs : ¬s.ust.pulses := by simp [Ust.pulses, hust]
  have hhigh : s.lineRst = true := by simpa [hust] using hlow
  obtain ⟨op, v, -, heffect, hrow⟩ := s.rowCycle_effect
  rw [hrow]
  cases heffect with
  | rst hpresent =>
    have hpresent : s.par.hasRst = true := hpresent
    simpa [LineInv, hpresent] using fun habsent => (habsentEn habsent).1
  | en hpresent | dis hpresent =>
    have hpresent : s.par.hasEn = true := hpresent
    simp [LineInv, hpresent, hhigh, hust]
  | fin | wait | drain | recv | bcancel | report | none =>
    exact h.of_lines_kept hs (by simp [Ust.pulses, hust]) rfl rfl rfl rfl

theorem LineInv.rsten {s : State} (h : LineInv s) (hrun : Running .rsten s) : LineInv s.rstenCycle := by
  obtain ⟨-, -, hust⟩ := hrun
  obtain ⟨habsentEn, habsentRst, hlow, hresetting, -⟩ := h
  have hlow : s.lineRst = false := hlow.2 (.inl hust)
  have hcst : s.cst = .resetting := hresetting.2 (.inl hust)
  have hpresent : s.par.hasRst = true := by simpa [hlow] using habsentRst
  cases hen : s.par.hasEn <;>
    simp [LineInv, State.rstenCycle, State.driveEn_lineEn, hlow, hcst, hpresent, hen, habsentEn]

theorem LineInv.settle {s : State} (h : LineInv s) (hrun : Running .settle s) : LineInv s.settleCycle := by
  obtain ⟨-, heq⟩ | ⟨-, heq⟩ := s.settleCycle_cases <;> rw [heq]
  · obtain ⟨-, -, hust⟩ := hrun
    obtain ⟨habsentEn, habsentRst, hlow, -, hraised, -⟩ := h
    have hlow : s.lineRst = false := hlow.2 (.inr hust)
    have hpresent : s.par.hasRst = true := by simpa [hlow] using habsentRst
    cases hen : s.par.hasEn
    · simp [LineInv, State.driveRst_lineRst, hpresent, hen, (habsentEn hen).1]
    · simp [LineInv, State.driveRst_lineRst, hpresent, hen, hraised hust hen]
  · exact h.tick

theorem LineInv.quiet {s u : State} (h : LineInv s) (hq : QuietCycle s u) : LineInv u := by
  obtain ⟨hlatched, -, -, hcst, -, hen, hrst⟩ := State.control_eq_iff.1 hq.control
  obtain ⟨hpar, -⟩ := State.latched_eq_iff.1 hlatched
  exact h.of_lines_kept hq.not_pulses.1 hq.not_pulses.2 hpar hcst hen hrst

theorem LineInv.cycle {s u : State} (h : LineInv s) (hc : Cycle s u) : LineInv u := by
  cases hc with
  | reset => simp [LineInv]
  | idle | accept => exact h
  | row hrun => exact h.row hrun
  | rsten hrun => exact h.rsten hrun
  | settle hrun => exact h.settle hrun
  | load hrun =>
    exact h.of_lines_kept (by simp [Ust.pulses, hrun.ust]) (by simp [Ust.pulses]) rfl rfl rfl rfl
  | quiet hq => exact h.quiet hq

/-- Settles O44, by the rule of the cycle: only RST, EN and DIS rows and the two routines of `reset()` touch a line or
`cst`, and each moves both. -/
theorem linesAgreeWithTheController : Obligations.LinesAgreeWithTheController :=
  step_keeps (fun _ h => h) (fun _ h => h) fun _ _ h hc => h.cycle hc

/-! ### The timer stays in its range (10_state.md R35, 60_exceptions.md R198) -/

/-- The micro-states with a fixed window of 100 ms (60_exceptions.md R198). -/
def Ust.fixedWindow (v : Ust) : Prop := v = .settle ∨ v = .mark2 ∨ v = .body

theorem TimerInv.pre_lt {s : State} (h : TimerInv s) : s.pre < s.par.nMs := h.1

theorem TimerInv.tmr_le {s : State} (h : TimerInv s) (hwindow : s.ust.fixedWindow) : s.tmr ≤ 100 := h.2 hwindow

theorem TimerInv.of_no_window {u : State} (hpre : u.pre < u.par.nMs) (hust : ¬u.ust.fixedWindow) : TimerInv u :=
  ⟨hpre, fun hwindow => absurd hwindow hust⟩

theorem TimerInv.of_loaded {u : State} (hpre : u.pre = 0) (htmr : u.tmr = 100) : TimerInv u :=
  ⟨hpre ▸ Params.nMs_pos u.par, fun _ => htmr ▸ BitVec.le_refl u.tmr⟩

theorem State.tick_pre_lt {s : State} (h : s.pre < s.par.nMs) : s.tick.pre < s.par.nMs := by
  by_cases htmr : s.tmr = 0
  · rwa [State.tick_of_expired htmr]
  by_cases hlast : s.pre = s.par.nMs - 1
  · rw [State.tick_of_last htmr hlast]
    exact Params.nMs_pos s.par
  · rw [State.tick_of_within htmr hlast]
    show s.pre + 1 < s.par.nMs
    omega

theorem State.tick_tmr_le (s : State) : s.tick.tmr ≤ s.tmr := by
  by_cases htmr : s.tmr = 0
  · rw [State.tick_of_expired htmr]
    exact BitVec.le_refl s.tmr
  by_cases hlast : s.pre = s.par.nMs - 1
  · rw [State.tick_of_last htmr hlast]
    show s.tmr - 1 ≤ s.tmr
    bv_omega
  · rw [State.tick_of_within htmr hlast]
    exact BitVec.le_refl s.tmr

theorem TimerInv.tick {s : State} (h : TimerInv s) : TimerInv s.tick := by
  obtain ⟨hpre, htmr⟩ := h
  refine ⟨by simpa using State.tick_pre_lt hpre, fun hwindow => ?_⟩
  rw [State.tick_ust] at hwindow
  exact BitVec.le_trans s.tick_tmr_le (htmr hwindow)

theorem TimerInv.row {s : State} (h : TimerInv s) (hrun : Running .idle s) : TimerInv s.rowCycle := by
  have hpre := h.pre_lt
  obtain ⟨-, -, hust⟩ := hrun
  obtain ⟨op, v, -, heffect, hrow⟩ := s.rowCycle_effect
  rw [hrow]
  cases heffect with
  | wait => exact .of_no_window (Params.nMs_pos s.par) (by simp [Ust.fixedWindow])
  | fin | rst | en | dis | drain | recv | bcancel | report | none =>
    exact .of_no_window hpre (by simp [Ust.fixedWindow, hust])

theorem TimerInv.settle {s : State} (h : TimerInv s) : TimerInv s.settleCycle := by
  obtain ⟨-, heq⟩ | ⟨-, heq⟩ := s.settleCycle_cases <;> rw [heq]
  · exact .of_no_window (by simpa using h.pre_lt) (by simp [Ust.fixedWindow])
  · exact h.tick

theorem TimerInv.wait {s : State} (h : TimerInv s) : TimerInv s.waitCycle := by
  obtain ⟨-, heq⟩ | ⟨-, -, heq⟩ | ⟨-, -, heq⟩ := s.waitCycle_cases <;> rw [heq]
  · exact .of_no_window h.pre_lt (by simp [Ust.fixedWindow])
  · exact .of_no_window h.pre_lt (by simp [Ust.fixedWindow])
  · exact h.tick

theorem TimerInv.drain {s : State} (h : TimerInv s) : TimerInv s.drainCycle := by
  obtain ⟨_, _, -, -, heq⟩ | ⟨-, heq⟩ := s.drainCycle_cases <;> rw [heq]
  · exact h
  · exact .of_no_window h.pre_lt (by simp [Ust.fixedWindow])

theorem TimerInv.failReceive {s : State} (h : TimerInv s) (code : Res) : TimerInv (s.failReceive code) :=
  .of_no_window h.pre_lt (by simp [Ust.fixedWindow])

theorem TimerInv.discardToHunt {s : State} (h : TimerInv s) : TimerInv s.discardToHunt :=
  .of_no_window h.pre_lt (by simp [Ust.fixedWindow])

theorem TimerInv.hunt {s : State} (h : TimerInv s) : TimerInv s.huntCycle := by
  obtain ⟨-, heq⟩ | ⟨-, -, heq⟩ | ⟨_, -, -, -, heq⟩ | ⟨_, _, -, -, -, -, heq⟩ | ⟨-, -, -, heq⟩ := s.huntCycle_cases <;>
    rw [heq]
  · exact h.failReceive _
  · exact h.failReceive _
  · exact .of_loaded rfl rfl
  · exact h
  · exact h

theorem TimerInv.mark2 {s : State} (h : TimerInv s) : TimerInv s.mark2Cycle := by
  obtain ⟨-, heq⟩ | ⟨_, -, -, -, heq⟩ | ⟨_, -, -, -, heq⟩ | ⟨_, _, -, -, -, heq⟩ | ⟨-, -, -, heq⟩ | ⟨-, -, -, heq⟩ :=
    s.mark2Cycle_cases <;> rw [heq]
  · exact h.failReceive _
  · exact .of_no_window h.pre_lt (by simp [Ust.fixedWindow])
  · exact .of_loaded rfl rfl
  · exact .of_no_window h.pre_lt (by simp [Ust.fixedWindow])
  · exact h.discardToHunt
  · exact h.tick

theorem TimerInv.body {s u : State} (h : TimerInv s) (hrun : Running .body s) (hu : s.bodyCycle = .next u) :
    TimerInv u := by
  have hwindow : s.tmr ≤ 100 := h.tmr_le (.inr (.inr hrun.ust))
  obtain ⟨-, heq⟩ | ⟨_, _, -, -, _, heq⟩ | ⟨_, _, -, -, -, heq⟩ | ⟨-, -, -, heq⟩ | ⟨-, -, -, heq⟩ :=
    s.bodyCycle_cases <;> rw [heq] at hu <;> cases hu
  · exact h.failReceive _
  · exact TimerInv.tick ⟨h.pre_lt, fun _ => hwindow⟩
  · exact h.discardToHunt
  · exact h.tick

theorem TimerInv.quiet {s u : State} (h : TimerInv s) (hq : QuietCycle s u) : TimerInv u := by
  cases hq with
  | wait => exact h.wait
  | drain => exact h.drain
  | hunt => exact h.hunt
  | mark2 => exact h.mark2
  | body hrun hu => exact h.body hrun hu
  | invalid => exact .of_no_window h.pre_lt (by simp [Ust.fixedWindow])

theorem TimerInv.cycle {s u : State} (h : TimerInv s) (hc : Cycle s u) : TimerInv u := by
  cases hc with
  | reset => exact .of_no_window (Params.nMs_pos s.par) (by simp [Ust.fixedWindow])
  | idle | accept => exact h
  | row hrun => exact h.row hrun
  | rsten => exact .of_loaded rfl rfl
  | settle => exact h.settle
  | load => exact .of_no_window h.pre_lt (by simp [Ust.fixedWindow])
  | quiet hq => exact h.quiet hq

/-- Settles O46, by the rule of the cycle: a fixed window is entered by a load of 100 and then only ticked. -/
theorem timerStaysInItsRange : Obligations.TimerStaysInItsRange :=
  step_keeps (fun _ h => h) (fun _ h => h) fun _ _ h hc => h.cycle hc

/-! ### The sequencer is where its history allows (10_state.md R25; 44_session.md R151, R162) -/

/-- The micro-states of a receive (42_synchronizer.md R112 to R115). -/
def Ust.receives (v : Ust) : Prop := v = .hunt ∨ v = .mark2 ∨ v = .body ∨ v = .check

theorem rowAt_next_of_recv : ∀ n : RowNum, (rowAt n).op = .recv →
    (rowAt n).next = 0 ∨ (rowAt n).next = 13 ∨ (rowAt n).next = 22 := by decide

/-- The target of a branch row (44_session.md R153). -/
def MicroOp.target : MicroOp → Option RowNum
  | .bzw target | .bcancel target | .bnogot target | .bnosleep target => some target
  | .fin | .rst | .en | .dis | .wait _ | .drain | .recv | .report | .nop => none

theorem Row.nextRow_cases (r : Row) (s : State) : r.nextRow s = r.next ∨ r.op.target = some (r.nextRow s) := by
  unfold Row.nextRow
  cases r.op with
  | bzw => cases s.noWarmup <;> simp [MicroOp.target]
  | bcancel => cases s.cancelled <;> simp [MicroOp.target]
  | bnogot => cases s.noReading <;> simp [MicroOp.target]
  | bnosleep => cases s.noSleep <;> simp [MicroOp.target]
  | fin | rst | en | dis | wait | drain | recv | report | nop => exact .inl rfl

/-- The sleep rows are entered from above only (44_session.md R151). -/
theorem rowAt_to_sleep : ∀ n : RowNum, (rowAt n).op.target ≠ some 25 ∧ (rowAt n).op.target ≠ some 26 ∧
    ((rowAt n).next = 25 → n = 24) ∧ ((rowAt n).next = 26 → n = 25) := by decide

/-- BNOSLEEP goes on to the sleep rows only when `sleep_period > 0` (44_session.md R162). -/
theorem nextRow_bnosleep {s : State} (h : (rowAt 24).nextRow s = 25) : s.a0 < s.a1 := by
  have hnext : (rowAt 24).nextRow s = if s.noSleep then 28 else 25 := rfl
  cases hsleep : s.noSleep
  · simpa [State.noSleep] using hsleep
  · rw [hnext, hsleep] at h
    exact absurd h (by decide)

/-- Row 25 is entered only by the BNOSLEEP row 24, and row 26 only from row 25 (44_session.md R151, R162). -/
theorem nextRow_sleep {s : State} (h : (rowAt s.upc).nextRow s = 25 ∨ (rowAt s.upc).nextRow s = 26) :
    s.a0 < s.a1 ∨ s.upc = 25 := by
  obtain ⟨hno25, hno26, hfrom24, hfrom25⟩ := rowAt_to_sleep s.upc
  obtain hnext | htarget := (rowAt s.upc).nextRow_cases s
  · obtain h | h := h
    · have hupc : s.upc = 24 := hfrom24 (hnext.symm.trans h)
      exact .inl (nextRow_bnosleep (hupc ▸ h))
    · exact .inr (hfrom25 (hnext.symm.trans h))
  · obtain h | h := h
    · exact absurd (h ▸ htarget) hno25
    · exact absurd (h ▸ htarget) hno26

/-- FIN has no successor, and a receive returns to the row after its RECV row (44_session.md R151, R152). -/
theorem nextRow_of_fin {s : State} (h : (rowAt s.upc).op = .fin) : (rowAt s.upc).nextRow s = 0 := by
  rw [(rowAt_op_eq_fin_iff s.upc).1 h]
  rfl

theorem nextRow_of_recv {s : State} (h : (rowAt s.upc).op = .recv) :
    (rowAt s.upc).nextRow s = 0 ∨ (rowAt s.upc).nextRow s = 13 ∨ (rowAt s.upc).nextRow s = 22 := by
  have hnext : (rowAt s.upc).nextRow s = (rowAt s.upc).next := by rw [Row.nextRow, h]
  rw [hnext]
  exact rowAt_next_of_recv s.upc h

/-- The premise of R162 where the sleep rows are next. -/
theorem SequencerInv.sleep {s : State} (h : SequencerInv s) : s.upc = 25 ∨ s.upc = 26 → s.a0 < s.a1 := h.2.2

theorem SequencerInv.row {s : State} (h : SequencerInv s) (hrun : Running .idle s) : SequencerInv s.rowCycle := by
  obtain ⟨-, hb, hust⟩ := hrun
  have hsleep' (hnext : (rowAt s.upc).nextRow s = 25 ∨ (rowAt s.upc).nextRow s = 26) : s.a0 < s.a1 :=
    (nextRow_sleep hnext).elim id fun hupc => h.sleep (.inl hupc)
  obtain ⟨op, v, hop, heffect, hrow⟩ := s.rowCycle_effect
  rw [hrow]
  cases heffect with
  | fin => exact ⟨fun _ => ⟨nextRow_of_fin hop, hust⟩, by simp [hust], hsleep'⟩
  | recv => exact ⟨by simp [hb], fun _ => nextRow_of_recv hop, hsleep'⟩
  | rst | en | dis | wait | drain | bcancel | report | none =>
    exact ⟨by simp [hb], by simp [hust], hsleep'⟩

theorem SequencerInv.tick {s : State} (h : SequencerInv s) : SequencerInv s.tick := by simpa [SequencerInv] using h

theorem SequencerInv.settle {s : State} (h : SequencerInv s) (hrun : Running .settle s) :
    SequencerInv s.settleCycle := by
  obtain ⟨-, heq⟩ | ⟨-, heq⟩ := s.settleCycle_cases <;> rw [heq]
  · exact ⟨by simp [hrun.busy], by simp, by simpa using h.sleep⟩
  · exact h.tick

/-- Only a receive goes on receiving. -/
theorem QuietCycle.receives {s u : State} (h : QuietCycle s u) (hu : u.ust.receives) : s.ust.receives := by
  have table : ∀ move ∈ quietMoves, (move.2 = .hunt ∨ move.2 = .mark2 ∨ move.2 = .body ∨ move.2 = .check) →
      (move.1 = .hunt ∨ move.1 = .mark2 ∨ move.1 = .body ∨ move.1 = .check) := by decide
  exact table _ h.move hu

theorem SequencerInv.quiet {s u : State} (h : SequencerInv s) (hq : QuietCycle s u) : SequencerInv u := by
  obtain ⟨-, hreceives, hsleep⟩ := h
  obtain ⟨hlatched, hbusy, hupc, -⟩ := State.control_eq_iff.1 hq.control
  obtain ⟨-, -, -, -, ha0, ha1, -⟩ := State.latched_eq_iff.1 hlatched
  refine ⟨by simp [hbusy, hq.busy], fun hu => ?_, by simpa [hupc, ha0, ha1] using hsleep⟩
  rw [hupc]
  exact hreceives (hq.receives hu)

theorem SequencerInv.accept {s : State} (h : SequencerInv s) (hb : s.busy = false) (op : BitVec 4) (arg0 arg1 : Word) :
    SequencerInv (s.takeCommand op arg0 arg1) := by
  obtain ⟨-, hust⟩ := h.1 hb
  obtain ⟨hno25, hno26⟩ := entryRow_not_sleep op
  simp [SequencerInv, State.takeCommand, hust, hno25, hno26]

theorem SequencerInv.cycle {s u : State} (h : SequencerInv s) (hc : Cycle s u) : SequencerInv u := by
  cases hc with
  | reset => simp [SequencerInv]
  | idle => exact h
  | accept _ hb => exact h.accept hb _ _ _
  | row hrun => exact h.row hrun
  | rsten hrun => exact ⟨by simp [hrun.busy], by simp, by simpa using h.sleep⟩
  | settle hrun => exact h.settle hrun
  | load hrun => exact ⟨by simp [hrun.busy], by simp, h.sleep⟩
  | quiet hq => exact h.quiet hq

/-- Settles O47, by the rule of the cycle: only the BNOSLEEP row 24 leads to the sleep rows, and a running command keeps
its arguments. -/
theorem sleepPeriodIsPositiveWhereFormed : Obligations.SleepPeriodIsPositiveWhereFormed :=
  step_keeps (fun _ h => h) (fun _ h => h) fun _ _ h hc => h.cycle hc

/-! ### The invariants hold after reset (10_state.md R41) -/

/-- Settles O42: after reset the block is idle and no byte is gathered. -/
theorem resetStateGathersNothing : Obligations.ResetStateGathersNothing := fun p =>
  FrameInv.of_gathersNothing (u := State.resetWith p) (.inr rfl) (.head _) (by simp [State.resetWith])

/-- Settles O45: after reset the lines stand at the levels of SUSPENDED. -/
theorem resetStateIdlesTheLines : Obligations.ResetStateIdlesTheLines := fun p => by
  simp [LineInv, State.resetWith]

/-- Settles O49: after reset the block is not busy, at row 0, with the timer at 0. -/
theorem resetStateIsIdle : Obligations.ResetStateIsIdle := fun p =>
  ⟨.of_no_window (Params.nMs_pos p) (by simp [Ust.fixedWindow, State.resetWith]),
    by simp [SequencerInv, State.resetWith], by simp [FinalizerInv, State.resetWith]⟩

end Sys2Proof.Machine
end

section
/-! PROOFS. What no rule reads: RD, `op_l`, `cst` and `sst` (10_state.md R22, R27, R31, R32), and a cancellation request
in its own cycle (R28). A state with these overwritten runs the same cycle, up to what it says of them. -/

namespace Sys2Proof.Machine

/-- The registers the block shows and never reads (10_state.md R22, R27, R31, R32). -/
structure Status where
  rd : Vector Half 12
  opL : BitVec 4
  cst : Cst
  sst : Sst

def State.status (s : State) : Status := ⟨s.rd, s.opL, s.cst, s.sst⟩

/-- The state with its status registers and its cancellation request overwritten. -/
def State.recode (x : Status) (req : Bool) (s : State) : State :=
  { s with rd := x.rd, opL := x.opL, cst := x.cst, sst := x.sst, ports := { s.ports with cancelReq := req } }

theorem State.tick_recode (s : State) (x : Status) (req : Bool) : (s.recode x req).tick = s.tick.recode x req := by
  simp only [State.tick, apply_ite (State.recode x req)]
  rfl

theorem State.driveEn_recode (level : Bool) (s : State) (x : Status) (req : Bool) :
    (s.recode x req).driveEn level = (s.driveEn level).recode x req := by
  simp only [State.driveEn, apply_ite (State.recode x req)]
  rfl

theorem State.driveRst_recode (level : Bool) (s : State) (x : Status) (req : Bool) :
    (s.recode x req).driveRst level = (s.driveRst level).recode x req := by
  simp only [State.driveRst, apply_ite (State.recode x req)]
  rfl

theorem State.waitCycle_recode (s : State) (x : Status) (req : Bool) :
    (s.recode x req).waitCycle = s.waitCycle.recode x req := by
  simp only [State.waitCycle, State.tick_recode, apply_ite (State.recode x req)]
  rfl

theorem State.streamPop_recode (s : State) (x : Status) (req : Bool) :
    (s.recode x req).streamPop = s.streamPop.map (Prod.map id (State.recode x req)) := by
  cases hf : s.ports.rxFail <;> cases hq : s.rxq <;> simp [State.streamPop, State.recode, hf, hq]

theorem State.drainCycle_recode (s : State) (x : Status) (req : Bool) :
    (s.recode x req).drainCycle = s.drainCycle.recode x req := by
  rw [State.drainCycle, State.drainCycle, State.streamPop_recode]
  cases s.streamPop <;> rfl

theorem State.huntCycle_recode (s : State) (x : Status) (req : Bool) :
    (s.recode x req).huntCycle = s.huntCycle.recode x req := by
  rw [State.huntCycle, State.huntCycle, State.streamPop_recode]
  cases s.streamPop <;> simp only [Option.map, apply_ite (State.recode x req)] <;> rfl

theorem State.mark2Cycle_recode (s : State) (x : Status) (req : Bool) :
    (s.recode x req).mark2Cycle = s.mark2Cycle.recode x req := by
  rw [State.mark2Cycle, State.mark2Cycle, State.streamPop_recode]
  cases s.streamPop <;> simp only [Option.map, State.tick_recode, apply_ite (State.recode x req)] <;> rfl

theorem State.storeBody_recode {b : Byte} {s u : State} (h : s.storeBody b = .next u) (x : Status) (req : Bool) :
    (s.recode x req).storeBody b = .next (u.recode x req) := by
  by_cases hcnt : s.cnt.toNat < 32
  · rw [State.storeBody, dif_pos hcnt] at h
    cases h
    rw [← State.tick_recode]
    exact dif_pos hcnt
  · rw [State.storeBody, dif_neg hcnt] at h
    cases h

theorem State.bodyCycle_recode {s u : State} (h : s.bodyCycle = .next u) (x : Status) (req : Bool) :
    (s.recode x req).bodyCycle = .next (u.recode x req) := by
  cases hf : s.rxFail
  case true =>
    rw [State.bodyCycle, if_pos hf] at h
    cases h
    exact if_pos hf
  have hno : ¬s.rxFail = true := by simp [hf]
  rw [State.bodyCycle, if_neg hno] at h
  refine (if_neg hno).trans ?_
  rw [State.streamPop_recode]
  rcases hpop : s.streamPop with _ | ⟨b, t⟩ <;> rw [hpop] at h
  · cases h
    show Host.Outcome.next (if s.expired then (s.recode x req).discardToHunt else (s.recode x req).tick) = _
    rw [State.tick_recode, apply_ite (State.recode x req)]
    rfl
  · exact State.storeBody_recode h x req

/-- A quiet cycle neither reads nor writes the status. -/
theorem QuietCycle.recode {s u : State} (h : QuietCycle s u) (x : Status) (req : Bool) :
    QuietCycle (s.recode x req) (u.recode x req) := by
  cases h with
  | wait hrun => exact s.waitCycle_recode x req ▸ .wait hrun
  | drain hrun => exact s.drainCycle_recode x req ▸ .drain hrun
  | hunt hrun => exact s.huntCycle_recode x req ▸ .hunt hrun
  | mark2 hrun => exact s.mark2Cycle_recode x req ▸ .mark2 hrun
  | body hrun hu => exact .body hrun (State.bodyCycle_recode hu x req)
  | invalid hrun hvalid => exact .invalid (s := s.recode x req) hrun hvalid

/-- `f` takes a recoded state to the recoded result: what it makes of the status depends on nothing but the status. -/
def Transparent (f : State → State) (s : State) : Prop :=
  ∃ g : Status → Status, ∀ x req, f (s.recode x req) = (f s).recode (g x) req

theorem State.settleCycle_transparent (s : State) : Transparent State.settleCycle s := by
  obtain ⟨htmr, h⟩ | ⟨htmr, h⟩ := s.settleCycle_cases
  · refine ⟨fun x => { x with cst := if s.par.hasEn then .enabled else .suspended }, fun x req => ?_⟩
    rw [h, State.settleCycle, if_pos ((s.recode x req).expired_iff.2 htmr), State.driveRst_recode]
    rfl
  · refine ⟨id, fun x req => ?_⟩
    rw [h, State.settleCycle, if_neg (mt (s.recode x req).expired_iff.1 htmr)]
    exact s.tick_recode x req

theorem State.rstenCycle_transparent (s : State) : Transparent State.rstenCycle s := by
  refine ⟨id, fun x req => ?_⟩
  rw [State.rstenCycle, State.driveEn_recode]
  rfl

theorem State.microOp_transparent (op : MicroOp) (s : State) : Transparent (State.microOp op) s := by
  cases op with
  | rst =>
    refine ⟨fun x => { x with cst := if s.par.hasRst then .resetting else x.cst }, fun x req => ?_⟩
    cases hp : s.par.hasRst <;> simp [State.microOp, State.rstOp, State.driveRst, State.recode, hp]
  | en =>
    refine ⟨fun x => { x with cst := if s.par.hasEn then .enabled else x.cst }, fun x req => ?_⟩
    cases hp : s.par.hasEn <;> simp [State.microOp, State.enOp, State.driveEn, State.recode, hp]
  | dis =>
    refine ⟨fun x => { x with cst := if s.par.hasEn then .disabled else x.cst }, fun x req => ?_⟩
    cases hp : s.par.hasEn <;> simp [State.microOp, State.disOp, State.driveEn, State.recode, hp]
  | bcancel target =>
    refine ⟨id, fun x req => ?_⟩
    cases hc : s.cancel <;> simp [State.microOp, State.cancelled, State.recode, hc]
  | wait o => exact ⟨id, fun x req => by cases o <;> rfl⟩
  | fin | drain | recv | bzw | bnogot | bnosleep | report | nop => exact ⟨id, fun x req => rfl⟩

theorem State.rowCycle_transparent (s : State) : Transparent State.rowCycle s := by
  obtain ⟨g, hg⟩ := State.microOp_transparent (rowAt s.upc).op { s with sst := (rowAt s.upc).sst.getD s.sst }
  refine ⟨fun x => g { x with sst := (rowAt s.upc).sst.getD x.sst }, fun x req => ?_⟩
  have hop := hg { x with sst := (rowAt s.upc).sst.getD x.sst } req
  rw [State.rowCycle, State.rowCycle, State.labelSession_eq, State.labelSession_eq]
  exact congrArg (fun v : State => { v with upc := (rowAt s.upc).nextRow s }) hop

theorem Cycle.transparent {s u : State} (h : Cycle s u) :
    ∃ g : Status → Status, ∀ x req, Cycle (s.recode x req) (u.recode (g x) req) := by
  cases h with
  | reset hr => exact ⟨fun _ => s.hardReset.status, fun x req => .reset (s := s.recode x req) hr⟩
  | idle hr hb hv => exact ⟨id, fun x req => .idle hr hb hv⟩
  | accept hr hb hv =>
    exact ⟨fun x => { x with
        opL := s.ports.cmdOp, sst := if s.ports.cmdOp = 6 ∨ s.ports.cmdOp = 7 then .init else x.sst },
      fun x req => .accept (s := s.recode x req) hr hb hv⟩
  | row hrun =>
    obtain ⟨g, hg⟩ := s.rowCycle_transparent
    exact ⟨g, fun x req => hg x req ▸ .row hrun⟩
  | rsten hrun =>
    obtain ⟨g, hg⟩ := s.rstenCycle_transparent
    exact ⟨g, fun x req => hg x req ▸ .rsten hrun⟩
  | settle hrun =>
    obtain ⟨g, hg⟩ := s.settleCycle_transparent
    exact ⟨g, fun x req => hg x req ▸ .settle hrun⟩
  | load hrun hvalid =>
    exact ⟨fun x => { x with rd := (decodeBuf s.buf).2 }, fun x req => .load (s := s.recode x req) hrun hvalid⟩
  | quiet hq => exact ⟨id, fun x req => .quiet (hq.recode x req)⟩

/-- Settles O19: the step of the recoded state is the recoded cycle. -/
theorem statusRegistersAreNeverRead : Obligations.StatusRegistersAreNeverRead := by
  intro s t rd opL cst sst hstep
  obtain ⟨u, hc, rfl⟩ := step_iff_cycle.1 hstep
  obtain ⟨g, hg⟩ := hc.transparent
  have hports : u.ports = s.ports := hc.par_ports.2
  refine ⟨(u.recode (g ⟨rd, opL, cst, sst⟩) s.ports.cancelReq).endCycle,
    step_iff_cycle.2 ⟨_, hg ⟨rd, opL, cst, sst⟩ s.ports.cancelReq, rfl⟩, ?_⟩
  rw [← hports]
  rfl

/-- A cycle has one result. -/
theorem Cycle.unique {s u v : State} (hu : Cycle s u) (hv : Cycle s v) : u = v :=
  Host.Outcome.next.inj ((cycle_iff.1 hu).symm.trans (cycle_iff.1 hv))

theorem Cycle.endCycle_cancel {s u : State} (h : Cycle s u) :
    u.endCycle.cancel = (!s.ports.rst && (s.cancel || s.ports.cancelReq)) := by
  rw [State.endCycle_cancel, h.par_ports.2]
  cases hr : s.ports.rst
  · rw [h.cancel hr]
  · rfl

/-- Settles O17: the flag moves at the end of the cycle alone, and the request is read there alone. -/
theorem cancelIsSticky : Obligations.CancelIsSticky := by
  refine ⟨fun s t hstep => ?_, fun s t hr hstep => ?_⟩
  · obtain ⟨u, hc, rfl⟩ := step_iff_cycle.1 hstep
    exact ⟨rfl, fun hr => hc.endCycle_cancel.trans (by simp [hr]), fun hr => hc.endCycle_cancel.trans (by simp [hr])⟩
  · obtain ⟨u, hc, rfl⟩ := step_iff_cycle.1 hstep
    obtain ⟨g, hg⟩ := hc.transparent
    have hself : Cycle s.beginCycle (u.recode (g s.status) s.ports.cancelReq) := hg s.status s.ports.cancelReq
    have hstatus : u.status = g s.status := congrArg State.status (hc.unique hself)
    have hrst : u.ports.rst = false := hc.par_ports.2 ▸ hr
    refine step_iff_cycle.2 ⟨u.recode u.status true, hstatus ▸ hg s.status true, ?_⟩
    exact congrArg (fun c : Bool => { u.endCycle with cancel := c })
      (show true = (!u.ports.rst && (u.cancel || true)) by simp [hrst])

/-- Settles O18, from what a cycle latches. -/
theorem onlyAValidCheckWritesRd : Obligations.OnlyAValidCheckWritesRd := by
  intro s t hr hstep
  obtain ⟨u, hc, rfl⟩ := step_iff_cycle.1 hstep
  obtain ⟨hrst, -⟩ | ⟨-, ⟨hb, -⟩, rfl⟩ | ⟨-, ⟨hb, hust, hvalid⟩, rfl⟩ | ⟨-, -, hload, hlatched⟩ := hc.latched_cases
  · exact nomatch hr.symm.trans hrst
  · exact .inr ⟨fun hload => (nomatch hb.symm.trans hload.1), rfl⟩
  · exact .inl ⟨hb, hust, hvalid, rfl, rfl⟩
  · obtain ⟨-, -, -, -, -, -, hrd⟩ := State.latched_eq_iff.1 hlatched
    exact .inr ⟨hload, hrd⟩

/-- Settles O20, from what a cycle latches. -/
theorem argumentsAreSampledOnce : Obligations.ArgumentsAreSampledOnce := by
  intro s t hstep
  obtain ⟨u, hc, rfl⟩ := step_iff_cycle.1 hstep
  refine ⟨hc.par_ports.1, ?_⟩
  obtain ⟨hrst, -⟩ | ⟨-, haccept, rfl⟩ | ⟨-, ⟨hb, -⟩, rfl⟩ | ⟨-, haccept, -, hlatched⟩ := hc.latched_cases
  · exact ⟨fun hr => (nomatch hr.symm.trans hrst), fun hr => (nomatch hr.symm.trans hrst)⟩
  · exact ⟨fun _ hna => absurd haccept hna, fun _ _ _ => ⟨rfl, rfl, rfl⟩⟩
  · exact ⟨fun _ _ => ⟨rfl, rfl, rfl⟩, fun _ hidle => nomatch hb.symm.trans hidle⟩
  · obtain ⟨-, -, -, hop, ha0, ha1, -⟩ := State.latched_eq_iff.1 hlatched
    exact ⟨fun _ _ => ⟨ha0, ha1, hop⟩, fun _ hidle hv => absurd ⟨hidle, hv⟩ haccept⟩

end Sys2Proof.Machine
end

section
/-! PROOFS. Who writes the registers behind the status outputs (10_state.md R29 to R33, R36, R37). -/

namespace Sys2Proof.Machine

/-- One of the micro-routines of a receive runs (42_synchronizer.md R112 to R115). -/
abbrev Receiving (s : State) : Prop := Running .hunt s ∨ Running .mark2 s ∨ Running .body s ∨ Running .check s

@[simp] theorem State.settleCycle_sst (s : State) : s.settleCycle.sst = s.sst := by
  obtain ⟨-, h⟩ | ⟨-, h⟩ := s.settleCycle_cases <;> simp [h]

@[simp] theorem State.settleCycle_lineEn (s : State) : s.settleCycle.lineEn = s.lineEn := by
  obtain ⟨-, h⟩ | ⟨-, h⟩ := s.settleCycle_cases <;> simp [h]

@[simp] theorem State.settleCycle_got (s : State) : s.settleCycle.got = s.got := by
  obtain ⟨-, h⟩ | ⟨-, h⟩ := s.settleCycle_cases <;> simp [h]

@[simp] theorem State.settleCycle_res (s : State) : s.settleCycle.res = s.res := by
  obtain ⟨-, h⟩ | ⟨-, h⟩ := s.settleCycle_cases <;> simp [h]

theorem State.settleCycle_lineRst (s : State) :
    s.settleCycle.lineRst = s.lineRst ∨ s.par.hasRst = true := by
  obtain ⟨-, h⟩ | ⟨-, h⟩ := s.settleCycle_cases <;> rw [h]
  · cases hp : s.par.hasRst <;> simp [State.driveRst_lineRst, hp]
  · exact .inl s.tick_lineRst

theorem State.waitCycle_got (s : State) : s.waitCycle.got = s.got := by
  obtain ⟨-, h⟩ | ⟨-, -, h⟩ | ⟨-, -, h⟩ := s.waitCycle_cases <;> simp [h]

theorem State.drainCycle_got (s : State) : s.drainCycle.got = s.got := by
  obtain ⟨_, _, -, -, h⟩ | ⟨-, h⟩ := s.drainCycle_cases <;> simp [h]

theorem State.drainCycle_res (s : State) : s.drainCycle.res = s.res := by
  obtain ⟨_, _, -, -, h⟩ | ⟨-, h⟩ := s.drainCycle_cases <;> simp [h]

/-- A quiet cycle waits, drains or receives. -/
theorem QuietCycle.kinds {s u : State} (h : QuietCycle s u) :
    (Running .wait s ∧ u = s.waitCycle) ∨ u = s.drainCycle ∨ Receiving s := by
  cases h with
  | wait hrun => exact .inl ⟨hrun, rfl⟩
  | drain => exact .inr (.inl rfl)
  | hunt hrun => exact .inr (.inr (.inl hrun))
  | mark2 hrun => exact .inr (.inr (.inr (.inl hrun)))
  | body hrun => exact .inr (.inr (.inr (.inr (.inl hrun))))
  | invalid hrun => exact .inr (.inr (.inr (.inr (.inr hrun))))

section

variable {s u : State}

/-- The writers of `cst` (10_state.md R31). -/
theorem Cycle.cst_writers (h : Cycle s u) (hr : s.ports.rst = false) :
    u.cst = s.cst ∨
    (Running .idle s ∧ ((rowAt s.upc).op = .rst ∨ (rowAt s.upc).op = .en ∨ (rowAt s.upc).op = .dis)) ∨
    Running .settle s := by
  cases h with
  | reset hrst => exact nomatch hr.symm.trans hrst
  | row hrun =>
    obtain ⟨op, v, hop, heffect, hrow⟩ := s.rowCycle_effect
    rw [hrow]
    cases heffect with
    | rst | en | dis => exact .inr (.inl ⟨hrun, by simp [hop]⟩)
    | fin | wait | drain | recv | bcancel | report | none => exact .inl rfl
  | settle hrun => exact .inr (.inr hrun)
  | quiet hq =>
    obtain ⟨-, -, -, hcst, -⟩ := State.control_eq_iff.1 hq.control
    exact .inl hcst
  | rsten => exact .inl (by simp)
  | idle | accept | load => exact .inl rfl

/-- The writers of `sst` (10_state.md R32). -/
theorem Cycle.sst_writers (h : Cycle s u) (hr : s.ports.rst = false) :
    u.sst = s.sst ∨ (s.accepts ∧ (s.ports.cmdOp = 6 ∨ s.ports.cmdOp = 7)) ∨
    (Running .idle s ∧ ∃ label, (rowAt s.upc).sst = some label ∧ u.sst = label) := by
  cases h with
  | reset hrst => exact nomatch hr.symm.trans hrst
  | accept _ hb hv =>
    by_cases hop : s.ports.cmdOp = 6 ∨ s.ports.cmdOp = 7
    · exact .inr (.inl ⟨⟨hb, hv⟩, hop⟩)
    · exact .inl (if_neg hop)
  | row hrun =>
    obtain ⟨op, v, -, heffect, hrow⟩ := s.rowCycle_effect
    have hsst : v.sst = (rowAt s.upc).sst.getD s.sst := by cases heffect <;> rfl
    rw [hrow, hsst]
    cases hlabel : (rowAt s.upc).sst with
    | none => exact .inl rfl
    | some label => exact .inr (.inr ⟨hrun, label, rfl, rfl⟩)
  | settle => exact .inl s.settleCycle_sst
  | quiet hq =>
    obtain ⟨-, -, -, -, hsst, -⟩ := State.control_eq_iff.1 hq.control
    exact .inl hsst
  | rsten => exact .inl (by simp)
  | idle | load => exact .inl rfl

/-- The writers of `ust` (10_state.md R33). -/
theorem Cycle.ust_writers (h : Cycle s u) (hr : s.ports.rst = false) :
    u.ust = s.ust ∨
    (Running .idle s ∧ ((rowAt s.upc).op = .rst ∨ (∃ o, (rowAt s.upc).op = .wait o) ∨ (rowAt s.upc).op = .drain ∨
      (rowAt s.upc).op = .recv)) ∨
    (s.busy = true ∧ s.ust ≠ .idle) := by
  cases h with
  | reset hrst => exact nomatch hr.symm.trans hrst
  | row hrun =>
    obtain ⟨op, v, hop, heffect, hrow⟩ := s.rowCycle_effect
    rw [hrow]
    cases heffect with
    | rst | wait | drain | recv => exact .inr (.inl ⟨hrun, by simp [hop]⟩)
    | fin | en | dis | bcancel | report | none => exact .inl rfl
  | rsten hrun | settle hrun | load hrun => exact .inr (.inr ⟨hrun.busy, by simp [hrun.ust]⟩)
  | quiet hq =>
    have table : ∀ move ∈ quietMoves, move.1 ≠ .idle := by decide
    exact .inr (.inr ⟨hq.busy, table _ hq.move⟩)
  | idle | accept => exact .inl rfl

/-- The writers of `line_en` (10_state.md R36). -/
theorem Cycle.lineEn_writers (h : Cycle s u) (hr : s.ports.rst = false) :
    u.lineEn = s.lineEn ∨ (s.par.hasEn = true ∧
      ((Running .idle s ∧ ((rowAt s.upc).op = .en ∨ (rowAt s.upc).op = .dis)) ∨ Running .rsten s)) := by
  cases h with
  | reset hrst => exact nomatch hr.symm.trans hrst
  | row hrun =>
    obtain ⟨op, v, hop, heffect, hrow⟩ := s.rowCycle_effect
    rw [hrow]
    cases heffect with
    | en hpresent | dis hpresent => exact .inr ⟨hpresent, .inl ⟨hrun, by simp [hop]⟩⟩
    | fin | rst | wait | drain | recv | bcancel | report | none => exact .inl rfl
  | rsten hrun =>
    cases hpresent : s.par.hasEn
    · exact .inl (by simp [State.rstenCycle, State.driveEn_lineEn, hpresent])
    · exact .inr ⟨rfl, .inr hrun⟩
  | settle => exact .inl s.settleCycle_lineEn
  | quiet hq =>
    obtain ⟨-, -, -, -, -, hlineEn, -⟩ := State.control_eq_iff.1 hq.control
    exact .inl hlineEn
  | idle | accept | load => exact .inl rfl

/-- The writers of `line_rst` (10_state.md R37). -/
theorem Cycle.lineRst_writers (h : Cycle s u) (hr : s.ports.rst = false) :
    u.lineRst = s.lineRst ∨
    (s.par.hasRst = true ∧ ((Running .idle s ∧ (rowAt s.upc).op = .rst) ∨ Running .settle s)) := by
  cases h with
  | reset hrst => exact nomatch hr.symm.trans hrst
  | row hrun =>
    obtain ⟨op, v, hop, heffect, hrow⟩ := s.rowCycle_effect
    rw [hrow]
    cases heffect with
    | rst hpresent => exact .inr ⟨hpresent, .inl ⟨hrun, hop⟩⟩
    | fin | en | dis | wait | drain | recv | bcancel | report | none => exact .inl rfl
  | settle hrun => exact s.settleCycle_lineRst.imp id fun hpresent => ⟨hpresent, .inr hrun⟩
  | quiet hq =>
    obtain ⟨-, -, -, -, -, -, hlineRst⟩ := State.control_eq_iff.1 hq.control
    exact .inl hlineRst
  | rsten => exact .inl (by simp)
  | idle | accept | load => exact .inl rfl

/-- The writers of `got` (10_state.md R29). -/
theorem Cycle.got_writers (h : Cycle s u) (hr : s.ports.rst = false) :
    u.got = s.got ∨ s.accepts ∨ (Running .idle s ∧ (rowAt s.upc).op = .recv) ∨ Receiving s := by
  cases h with
  | reset hrst => exact nomatch hr.symm.trans hrst
  | accept _ hb hv => exact .inr (.inl ⟨hb, hv⟩)
  | row hrun =>
    obtain ⟨op, v, hop, heffect, hrow⟩ := s.rowCycle_effect
    rw [hrow]
    cases heffect with
    | recv => exact .inr (.inr (.inl ⟨hrun, hop⟩))
    | fin | rst | en | dis | wait | drain | bcancel | report | none => exact .inl rfl
  | settle => exact .inl s.settleCycle_got
  | load hrun => exact .inr (.inr (.inr (.inr (.inr (.inr hrun)))))
  | quiet hq =>
    obtain hwait | hdrain | hreceive := hq.kinds
    · exact .inl (hwait.2 ▸ s.waitCycle_got)
    · exact .inl (hdrain ▸ s.drainCycle_got)
    · exact .inr (.inr (.inr hreceive))
  | rsten => exact .inl (by simp)
  | idle => exact .inl rfl

/-- The writers of `res` (10_state.md R30). -/
theorem Cycle.res_writers (h : Cycle s u) (hr : s.ports.rst = false) :
    u.res = s.res ∨ s.accepts ∨ (Running .idle s ∧ ∃ target, (rowAt s.upc).op = .bcancel target) ∨ Running .wait s ∨
    Receiving s := by
  cases h with
  | reset hrst => exact nomatch hr.symm.trans hrst
  | accept _ hb hv => exact .inr (.inl ⟨hb, hv⟩)
  | row hrun =>
    obtain ⟨op, v, hop, heffect, hrow⟩ := s.rowCycle_effect
    rw [hrow]
    cases heffect with
    | bcancel target => exact .inr (.inr (.inl ⟨hrun, target, hop⟩))
    | fin | rst | en | dis | wait | drain | recv | report | none => exact .inl rfl
  | settle => exact .inl s.settleCycle_res
  | load hrun => exact .inr (.inr (.inr (.inr (.inr (.inr (.inr hrun))))))
  | quiet hq =>
    obtain hwait | hdrain | hreceive := hq.kinds
    · exact .inr (.inr (.inr (.inl hwait.1)))
    · exact .inl (hdrain ▸ s.drainCycle_res)
    · exact .inr (.inr (.inr (.inr hreceive)))
  | rsten => exact .inl (by simp)
  | idle => exact .inl rfl

end

/-- Settles O59: the outputs of the next cycle show the registers at its start, and each register has its writers. -/
theorem outputsChangeOnlyByTheirRules : Obligations.OutputsChangeOnlyByTheirRules := by
  intro s t _ hstep _
  obtain ⟨u, hc, rfl⟩ := step_iff_cycle.1 hstep
  refine ⟨fun hr => ⟨?_, ?_, ?_, hc.lineEn_writers hr, hc.lineRst_writers hr, hc.got_writers hr, ?_⟩, fun hr => ?_⟩
  · exact (hc.cst_writers hr).imp_left (congrArg Cst.code)
  · exact (hc.sst_writers hr).imp (congrArg Sst.code) (Or.imp_right fun ⟨hrun, label, hlabel, hsst⟩ =>
      ⟨hrun, label, hlabel, congrArg Sst.code hsst⟩)
  · exact (hc.ust_writers hr).imp_left (congrArg Ust.code)
  · exact (hc.res_writers hr).imp_left (congrArg Res.code)
  · obtain ⟨-, rfl⟩ | ⟨hno, -⟩ | ⟨hno, -⟩ | ⟨hno, -⟩ := hc.latched_cases
    · exact ⟨rfl, rfl, rfl, hc.endCycle_cancel.trans (by simp [hr]), rfl, rfl, rfl, rfl⟩
    all_goals exact nomatch hr.symm.trans hno

end Sys2Proof.Machine
end

section
/-! PROOFS. The family 20_memory.md: a byte leaves the stream by a pop alone (R60, R63 to R65), and a step stops only
where the frame buffer has no such offset (R60). -/

namespace Sys2Proof.Machine

/-! ### The stream's side of a cycle (20_memory.md R62 to R65) -/

/-- What the stream shows of a state: the bytes held, whether one was popped, and what the inputs ahead are read from. -/
structure StreamSide where
  held : List Byte
  popped : Bool
  upcoming : List EnvCycle
  cycle : Nat

def State.stream (s : State) : StreamSide := ⟨s.rxq, s.rxPop, s.upcoming, s.cycle⟩

theorem State.stream_eq_iff {s : State} {held : List Byte} {popped : Bool} {upcoming : List EnvCycle} {cycle : Nat} :
    s.stream = ⟨held, popped, upcoming, cycle⟩ ↔
      s.rxq = held ∧ s.rxPop = popped ∧ s.upcoming = upcoming ∧ s.cycle = cycle := by
  simp [State.stream]

/-- The rule that took `s` to `u` popped the byte at the head: there was one, and the stream did not fail
(20_memory.md R63 to R65). -/
def PopsHead (s u : State) : Prop :=
  s.ports.rxFail = false ∧ ∃ b rest, s.rxq = b :: rest ∧ u.stream = { s.stream with held := rest, popped := true }

/-- The micro-states that pop (20_memory.md R60). -/
def Ust.pops (v : Ust) : Prop := v = .hunt ∨ v = .mark2 ∨ v = .body ∨ v = .drain

@[simp] theorem State.tick_stream (s : State) : s.tick.stream = s.stream := by simp [State.stream]

@[simp] theorem State.driveEn_stream (level : Bool) (s : State) : (s.driveEn level).stream = s.stream := by
  simp [State.stream]

@[simp] theorem State.driveRst_stream (level : Bool) (s : State) : (s.driveRst level).stream = s.stream := by
  simp [State.stream]

theorem State.settleCycle_stream (s : State) : s.settleCycle.stream = s.stream := by
  obtain ⟨-, h⟩ | ⟨-, h⟩ := s.settleCycle_cases <;> rw [h]
  · exact s.driveRst_stream true
  · exact s.tick_stream

theorem State.rowCycle_stream (s : State) : s.rowCycle.stream = s.stream := by
  obtain ⟨op, v, -, heffect, hrow⟩ := s.rowCycle_effect
  rw [hrow]
  cases heffect <;> rfl

theorem State.waitCycle_stream (s : State) : s.waitCycle.stream = s.stream := by
  obtain ⟨-, h⟩ | ⟨-, -, h⟩ | ⟨-, -, h⟩ := s.waitCycle_cases <;> rw [h]
  · rfl
  · rfl
  · exact s.tick_stream

theorem State.drainCycle_stream (s : State) : s.drainCycle.stream = s.stream ∨ PopsHead s s.drainCycle := by
  obtain ⟨b, rest, hf, hq, h⟩ | ⟨-, h⟩ := s.drainCycle_cases <;> rw [h]
  · exact .inr ⟨hf, b, rest, hq, rfl⟩
  · exact .inl rfl

theorem State.huntCycle_stream (s : State) : s.huntCycle.stream = s.stream ∨ PopsHead s s.huntCycle := by
  obtain ⟨-, h⟩ | ⟨-, -, h⟩ | ⟨rest, -, hf, hq, h⟩ | ⟨b, rest, -, hf, -, hq, h⟩ | ⟨-, -, -, h⟩ := s.huntCycle_cases <;>
    rw [h]
  · exact .inl rfl
  · exact .inl rfl
  · exact .inr ⟨hf, mark0Byte, rest, hq, rfl⟩
  · exact .inr ⟨hf, b, rest, hq, rfl⟩
  · exact .inl rfl

theorem State.mark2Cycle_stream (s : State) : s.mark2Cycle.stream = s.stream ∨ PopsHead s s.mark2Cycle := by
  obtain ⟨-, h⟩ | ⟨rest, hf, -, hq, h⟩ | ⟨rest, hf, -, hq, h⟩ | ⟨b, rest, hf, -, hq, h⟩ | ⟨-, -, -, h⟩ | ⟨-, -, -, h⟩ :=
    s.mark2Cycle_cases <;> rw [h]
  · exact .inl rfl
  · exact .inr ⟨hf, mark1Byte, rest, hq, rfl⟩
  · exact .inr ⟨hf, mark1Byte, rest, hq, rfl⟩
  · exact .inr ⟨hf, b, rest, hq, rfl⟩
  · exact .inl rfl
  · exact .inl s.tick_stream

theorem State.bodyCycle_stream {s u : State} (hu : s.bodyCycle = .next u) : u.stream = s.stream ∨ PopsHead s u := by
  obtain ⟨-, h⟩ | ⟨b, rest, hf, hq, _, h⟩ | ⟨_, _, -, -, -, h⟩ | ⟨-, -, -, h⟩ | ⟨-, -, -, h⟩ := s.bodyCycle_cases <;>
    rw [h] at hu <;> cases hu
  · exact .inl rfl
  · exact .inr ⟨hf, b, rest, hq, State.tick_stream _⟩
  · exact .inl rfl
  · exact .inl s.tick_stream

theorem QuietCycle.stream_cases {s u : State} (h : QuietCycle s u) :
    u.stream = s.stream ∨ (s.ust.pops ∧ PopsHead s u) := by
  cases h with
  | wait => exact .inl s.waitCycle_stream
  | drain hrun => exact s.drainCycle_stream.imp_right (⟨.inr (.inr (.inr hrun.ust)), ·⟩)
  | hunt hrun => exact s.huntCycle_stream.imp_right (⟨.inl hrun.ust, ·⟩)
  | mark2 hrun => exact s.mark2Cycle_stream.imp_right (⟨.inr (.inl hrun.ust), ·⟩)
  | body hrun hu => exact (State.bodyCycle_stream hu).imp_right (⟨.inr (.inr (.inl hrun.ust)), ·⟩)
  | invalid => exact .inl rfl

/-- A cycle leaves the stream alone or pops its head, which only four micro-routines of a busy block do
(20_memory.md R60). -/
theorem Cycle.stream_cases {s u : State} (h : Cycle s u) :
    u.stream = s.stream ∨ (s.ports.rst = false ∧ s.busy = true ∧ s.ust.pops ∧ PopsHead s u) := by
  cases h with
  | reset | idle | accept | load => exact .inl rfl
  | row => exact .inl s.rowCycle_stream
  | rsten => exact .inl (s.driveEn_stream true)
  | settle => exact .inl s.settleCycle_stream
  | quiet hq => exact hq.stream_cases.imp_right (⟨hq.noRst, hq.busy, ·⟩)

/-- The next cycle's inputs are read from the list of inputs and the cycle counter alone. -/
theorem State.nextEnv_congr {s u : State} (hupcoming : u.upcoming = s.upcoming) (hcycle : u.cycle = s.cycle) :
    u.nextEnv = s.nextEnv := by
  rw [State.nextEnv, State.nextEnv, hupcoming, hcycle]

/-- Settles O21: the rule pops the head or leaves the stream alone, and arrivals come in behind at the end of the cycle. -/
theorem bytesLeaveTheStreamOnlyByPops : Obligations.BytesLeaveTheStreamOnlyByPops := by
  intro s t hstep
  obtain ⟨u, hc, rfl⟩ := step_iff_cycle.1 hstep
  obtain hstream | ⟨hr, hb, hust, hf, b, rest, hq, hstream⟩ := hc.stream_cases
  all_goals
    obtain ⟨hrxq, hpop, hupcoming, hcycle⟩ := State.stream_eq_iff.1 hstream
    have henv : u.nextEnv = s.nextEnv := State.nextEnv_congr hupcoming hcycle
    rw [State.endCycle_rxPop, State.endCycle_rxq, hpop, hrxq, henv]
  · exact ⟨nofun, fun _ => rfl⟩
  · exact ⟨fun _ => ⟨hr, hb, hf, hust, b, rest, hq, rfl⟩, nofun⟩

/-! ### The one stop (20_memory.md R60, 42_synchronizer.md R114) -/

/-- U_BODY has a byte to store at an offset the frame buffer does not have (20_memory.md R60). -/
def Overruns (s : State) : Prop :=
  Running .body s ∧ s.ports.rxFail = false ∧ s.rxq ≠ [] ∧ 32 ≤ s.cnt.toNat

theorem State.bodyCycle_of_overruns {s : State} (h : Overruns s) : s.bodyCycle = .fault .frameOffset := by
  obtain ⟨-, hf, hq, hcnt⟩ := h
  obtain ⟨hfail, -⟩ | ⟨_, _, -, -, hlt, -⟩ | ⟨_, _, -, -, -, hfault⟩ | ⟨-, hnil, -⟩ | ⟨-, hnil, -⟩ := s.bodyCycle_cases
  · exact nomatch hf.symm.trans hfail
  · omega
  · exact hfault
  · exact absurd hnil hq
  · exact absurd hnil hq

theorem State.bodyCycle_of_not_overruns {s : State} (hrun : Running .body s) (h : ¬Overruns s) :
    ∃ u, s.bodyCycle = .next u := by
  obtain ⟨-, hu⟩ | ⟨_, _, -, -, _, hu⟩ | ⟨_, _, hf, hq, hcnt, -⟩ | ⟨-, -, -, hu⟩ | ⟨-, -, -, hu⟩ := s.bodyCycle_cases
  case inr.inr.inl => exact absurd ⟨hrun, hf, by simp [hq], hcnt⟩ h
  all_goals exact ⟨_, hu⟩

theorem cycle_exists_of_busy {s : State} (hr : s.ports.rst = false) (hb : s.busy = true) (h : ¬Overruns s) :
    ∃ u, Cycle s u := by
  cases hust : s.ust
  case idle => exact ⟨_, .row ⟨hr, hb, hust⟩⟩
  case rsten => exact ⟨_, .rsten ⟨hr, hb, hust⟩⟩
  case settle => exact ⟨_, .settle ⟨hr, hb, hust⟩⟩
  case wait => exact ⟨_, .quiet (.wait ⟨hr, hb, hust⟩)⟩
  case drain => exact ⟨_, .quiet (.drain ⟨hr, hb, hust⟩)⟩
  case hunt => exact ⟨_, .quiet (.hunt ⟨hr, hb, hust⟩)⟩
  case mark2 => exact ⟨_, .quiet (.mark2 ⟨hr, hb, hust⟩)⟩
  case body =>
    obtain ⟨u, hu⟩ := State.bodyCycle_of_not_overruns ⟨hr, hb, hust⟩ h
    exact ⟨u, .quiet (.body ⟨hr, hb, hust⟩ hu)⟩
  case check =>
    cases hvalid : (decodeBuf s.buf).1
    · exact ⟨_, .quiet (.invalid ⟨hr, hb, hust⟩ hvalid)⟩
    · exact ⟨_, .load ⟨hr, hb, hust⟩ hvalid⟩

/-- Every cycle but an overrun answers a next state. -/
theorem cycle_exists_of_not_overruns {s : State} (h : ¬Overruns s) : ∃ u, Cycle s u := by
  obtain ⟨hr, -⟩ | ⟨hr, hb, -⟩ | ⟨hr, hb, hv, -⟩ | ⟨hr, hb, hv, -⟩ := s.rule_cases
  · exact ⟨_, .reset hr⟩
  · exact cycle_exists_of_busy hr hb h
  · exact ⟨_, .accept hr hb hv⟩
  · exact ⟨_, .idle hr hb hv⟩

theorem step_of_overruns {s : State} (h : Overruns s) : step s = .fault .frameOffset := by
  have hbody : fire s.rule s.beginCycle = s.beginCycle.bodyCycle := by rw [rule_of_running h.1]; rfl
  rw [step, hbody, State.bodyCycle_of_overruns (s := s.beginCycle) h]
  rfl

theorem step_of_not_overruns {s : State} (h : ¬Overruns s) : ∃ t, step s = .next t := by
  obtain ⟨u, hc⟩ := cycle_exists_of_not_overruns (s := s.beginCycle) h
  exact ⟨u.endCycle, step_iff_cycle.2 ⟨u, hc, rfl⟩⟩

/-- Settles O23: an overrun faults, and every other cycle answers a next state. -/
theorem stepStopsOnlyAtAMissingOffset : Obligations.StepStopsOnlyAtAMissingOffset := by
  intro s
  by_cases h : Overruns s
  · obtain ⟨hrun, hf, hq, hcnt⟩ := h
    rw [step_of_overruns ⟨hrun, hf, hq, hcnt⟩]
    refine ⟨nofun, fun f => ⟨fun hfault => ?_, fun hstop => ?_⟩⟩
    · cases hfault
      exact ⟨hrun, hf, hq, hcnt, rfl⟩
    · obtain ⟨-, -, -, -, rfl⟩ := hstop
      rfl
  · obtain ⟨t, hstep⟩ := step_of_not_overruns h
    rw [hstep]
    refine ⟨nofun, fun f => ⟨nofun, fun hstop => ?_⟩⟩
    obtain ⟨hrun, hf, hq, hcnt, -⟩ := hstop
    exact absurd ⟨hrun, hf, hq, hcnt⟩ h

end Sys2Proof.Machine
end

section
/-! PROOFS. The family 30_encoding.md, the decoder: encoding and decoding undo each other, and what is no instruction is
rejected by name (R80, R81, R86, R90, R91, R94). -/

namespace Sys2Proof

/-! ### The fields of a command word (30_encoding.md R86) -/

theorem commandOp_commandWord (op : BitVec 4) (arg0 arg1 : Word) : commandOp (commandWord op arg0 arg1) = op :=
  (BitVec.extractLsb'_append_eq_of_le (by decide)).trans BitVec.extractLsb'_append_eq_left

theorem commandArg1_commandWord (op : BitVec 4) (arg0 arg1 : Word) : commandArg1 (commandWord op arg0 arg1) = arg1 :=
  (BitVec.extractLsb'_append_eq_of_le le_rfl).trans BitVec.extractLsb'_append_eq_right

theorem commandArg0_commandWord (op : BitVec 4) (arg0 arg1 : Word) : commandArg0 (commandWord op arg0 arg1) = arg0 :=
  BitVec.extractLsb'_append_eq_right

/-- The fields of a command word are all of its bits. -/
theorem commandWord_fields (cw : BitVec 68) : commandWord (commandOp cw) (commandArg0 cw) (commandArg1 cw) = cw := by
  have hhigh : commandOp cw ++ commandArg1 cw = cw.extractLsb' 32 36 :=
    BitVec.extractLsb'_append_extractLsb'_eq_extractLsb' rfl
  rw [commandWord, hhigh]
  exact BitVec.extractLsb'_append_extractLsb' (w := 36)

theorem decodeCommandWord_commandWord (op : BitVec 4) (arg0 arg1 : Word) :
    decodeCommandWord (commandWord op arg0 arg1) = decodeCommand op arg0 arg1 := by
  rw [decodeCommandWord, commandOp_commandWord, commandArg0_commandWord, commandArg1_commandWord]

/-! ### Commands (30_encoding.md R90, R91) -/

theorem encode_decodeCommand (op : BitVec 4) (arg0 arg1 : Word) :
    encode (decodeCommand op arg0 arg1) = commandBytes op arg0 arg1 := by
  obtain ⟨n, hn, rfl⟩ : ∃ n < 16, op = BitVec.ofNat 4 n := ⟨op.toNat, op.isLt, by simp⟩
  interval_cases n <;> rfl

theorem decodeCommand_wellFormed (op : BitVec 4) (arg0 arg1 : Word) : (decodeCommand op arg0 arg1).wellFormed = true := by
  unfold decodeCommand
  split <;> rfl

/-- An instruction is a frame or the command of some opcode. -/
theorem Instr.frame_or_command (i : Instr) :
    (∃ f, i = .frame f) ∨ ∃ op arg0 arg1, i = decodeCommand op arg0 arg1 := by
  cases i with
  | frame f => exact .inl ⟨f, rfl⟩
  | reserved0 arg0 arg1 => exact .inr ⟨0, arg0, arg1, rfl⟩
  | reset arg0 arg1 => exact .inr ⟨1, arg0, arg1, rfl⟩
  | enable arg0 arg1 => exact .inr ⟨2, arg0, arg1, rfl⟩
  | disable arg0 arg1 => exact .inr ⟨3, arg0, arg1, rfl⟩
  | warmup arg0 arg1 => exact .inr ⟨4, arg0, arg1, rfl⟩
  | receive arg0 arg1 => exact .inr ⟨5, arg0, arg1, rfl⟩
  | oneshot arg0 arg1 => exact .inr ⟨6, arg0, arg1, rfl⟩
  | monitor arg0 arg1 => exact .inr ⟨7, arg0, arg1, rfl⟩
  | reserved8 arg0 arg1 => exact .inr ⟨8, arg0, arg1, rfl⟩
  | reserved9 arg0 arg1 => exact .inr ⟨9, arg0, arg1, rfl⟩
  | reserved10 arg0 arg1 => exact .inr ⟨10, arg0, arg1, rfl⟩
  | reserved11 arg0 arg1 => exact .inr ⟨11, arg0, arg1, rfl⟩
  | reserved12 arg0 arg1 => exact .inr ⟨12, arg0, arg1, rfl⟩
  | reserved13 arg0 arg1 => exact .inr ⟨13, arg0, arg1, rfl⟩
  | reserved14 arg0 arg1 => exact .inr ⟨14, arg0, arg1, rfl⟩
  | reserved15 arg0 arg1 => exact .inr ⟨15, arg0, arg1, rfl⟩

/-! ### The decoder by the number of bytes (30_encoding.md R80, R86, R94) -/

theorem decode_toList (b : Vector Byte 32) : decode b.toList = decodeFrame b := dif_pos b.size_toArray

theorem decode_of_length_nine {bs : List Byte} (h : bs.length = 9) :
    decode bs =
      if natOfBytes bs < 2 ^ 68 then .ok (decodeCommandWord (BitVec.ofNat 68 (natOfBytes bs))) else .error .padding := by
  rw [decode, dif_neg (by omega), if_pos h]

theorem decode_of_length_ne {bs : List Byte} (h9 : bs.length ≠ 9) (h32 : bs.length ≠ 32) :
    decode bs = .error (.length bs.length) := by
  rw [decode, dif_neg h32, if_neg h9]

theorem natOfBytes_commandBytes (op : BitVec 4) (arg0 arg1 : Word) :
    natOfBytes (commandBytes op arg0 arg1) = (commandWord op arg0 arg1).toNat := by
  rw [commandBytes, natOfBytes_bytesOfNat]
  exact Nat.mod_eq_of_lt (by have := (commandWord op arg0 arg1).isLt; omega)

theorem decode_commandBytes (op : BitVec 4) (arg0 arg1 : Word) :
    decode (commandBytes op arg0 arg1) = .ok (decodeCommand op arg0 arg1) := by
  have h9 : (commandBytes op arg0 arg1).length = 9 := length_bytesOfNat 9 _
  rw [decode_of_length_nine h9, natOfBytes_commandBytes, if_pos (commandWord op arg0 arg1).isLt,
    BitVec.ofNat_toNat, BitVec.setWidth_eq, decodeCommandWord_commandWord]

/-- Nine bytes without a bit above the 68 of a command word are the bytes of a command (30_encoding.md R86). -/
theorem eq_commandBytes_of_lt {bs : List Byte} (h9 : bs.length = 9) (hlt : natOfBytes bs < 2 ^ 68) :
    ∃ op arg0 arg1, bs = commandBytes op arg0 arg1 := by
  set cw : BitVec 68 := BitVec.ofNat 68 (natOfBytes bs) with hcw
  have hnum : cw.toNat = natOfBytes bs := by rw [hcw, BitVec.toNat_ofNat, Nat.mod_eq_of_lt hlt]
  refine ⟨commandOp cw, commandArg0 cw, commandArg1 cw, ?_⟩
  rw [commandBytes, commandWord_fields, hnum, ← h9, bytesOfNat_natOfBytes]

/-- The buffer begins with the marker (30_encoding.md R81). -/
abbrev Marked (b : Vector Byte 32) : Prop := b[0] = mark0Byte ∧ b[1] = mark1Byte

theorem decodeFrame_of_marked {b : Vector Byte 32} (h : Marked b) : decodeFrame b = .ok (.frame (Frame.ofBuf b)) :=
  if_pos h

theorem decodeFrame_of_not_marked {b : Vector Byte 32} (h : ¬Marked b) : decodeFrame b = .error .marker :=
  if_neg h

/-- What decodes is a frame that begins with the marker or a command, and nothing else. -/
theorem decode_eq_ok_iff {bs : List Byte} {i : Instr} :
    decode bs = .ok i ↔
      (∃ b : Vector Byte 32, Marked b ∧ bs = b.toList ∧ i = .frame (Frame.ofBuf b)) ∨
      ∃ op arg0 arg1, bs = commandBytes op arg0 arg1 ∧ i = decodeCommand op arg0 arg1 := by
  constructor
  · intro h
    by_cases h32 : bs.length = 32
    · obtain ⟨b, rfl⟩ : ∃ b : Vector Byte 32, bs = b.toList := ⟨⟨bs.toArray, h32⟩, rfl⟩
      rw [decode_toList] at h
      by_cases hm : Marked b
      · rw [decodeFrame_of_marked hm] at h
        cases h
        exact .inl ⟨b, hm, rfl, rfl⟩
      · rw [decodeFrame_of_not_marked hm] at h
        cases h
    by_cases h9 : bs.length = 9
    · by_cases hlt : natOfBytes bs < 2 ^ 68
      · obtain ⟨op, arg0, arg1, rfl⟩ := eq_commandBytes_of_lt h9 hlt
        rw [decode_commandBytes] at h
        cases h
        exact .inr ⟨op, arg0, arg1, rfl, rfl⟩
      · rw [decode_of_length_nine h9, if_neg hlt] at h
        cases h
    · rw [decode_of_length_ne h9 h32] at h
      cases h
  · rintro (⟨b, hm, rfl, rfl⟩ | ⟨op, arg0, arg1, rfl, rfl⟩)
    · rw [decode_toList, decodeFrame_of_marked hm]
    · exact decode_commandBytes op arg0 arg1

/-! ### The obligations -/

/-- Settles O2: a frame by its buffer, a command by the fields of its word. -/
theorem encodedInstructionsDecode : Obligations.EncodedInstructionsDecode := by
  intro i hwf
  obtain ⟨f, rfl⟩ | ⟨op, arg0, arg1, rfl⟩ := i.frame_or_command
  · have hmarked : Marked f.toBuf := of_decide_eq_true hwf
    exact decode_eq_ok_iff.2 (.inl ⟨f.toBuf, hmarked, f.toList_toBuf.symm, by rw [Frame.ofBuf_toBuf]⟩)
  · rw [encode_decodeCommand, decode_commandBytes]

/-- Settles O3, from what decodes. -/
theorem decodedBytesEncodeBack : Obligations.DecodedBytesEncodeBack := by
  intro bs i h
  obtain ⟨b, hm, rfl, rfl⟩ | ⟨op, arg0, arg1, rfl, rfl⟩ := decode_eq_ok_iff.1 h
  · exact ⟨Frame.toBytes_ofBuf b, decide_eq_true hm⟩
  · exact ⟨encode_decodeCommand op arg0 arg1, decodeCommand_wellFormed op arg0 arg1⟩

/-- Settles O4, by the number of bytes. -/
theorem decoderRejectsByName : Obligations.DecoderRejectsByName := by
  refine ⟨decode_commandBytes, fun b h0 h1 => ?_, fun bs h9 hle => ?_, fun b hm => ?_, fun bs => decode_of_length_ne⟩
  · rw [decode_toList, decodeFrame_of_marked ⟨h0, h1⟩]
  · rw [decode_of_length_nine h9, if_neg (Nat.not_lt.2 hle)]
  · rw [decode_toList, decodeFrame_of_not_marked hm]

/-- Settles O1, by running the decoder on each word. -/
theorem knownWordsDecode : Obligations.KnownWordsDecode :=
  ⟨by decide, by decide, by decide, by decide, by decide⟩

end Sys2Proof
end

section
/-! PROOFS. The family 30_encoding.md, the command port: an idle block takes the command at its port in one cycle, a busy
one does not see it (R90 to R92). -/

namespace Sys2Proof.Machine

/-! ### What the acceptance of each command is (30_encoding.md R90, R91) -/

theorem offer_of_idle {s : State} (hb : s.busy = false) (taken : State → State) : offer taken s = .next (taken s) :=
  offer_eq_next_iff.2 (.inr ⟨hb, rfl⟩)

/-- Settles O11: each is the acceptance of its opcode. -/
theorem primitiveCommandsAreAccepted : Obligations.PrimitiveCommandsAreAccepted := fun _ _ _ hb =>
  ⟨offer_of_idle hb _, offer_of_idle hb _, offer_of_idle hb _, offer_of_idle hb _, offer_of_idle hb _⟩

/-- Settles O12: each is the acceptance of its opcode, with the session at INIT. -/
theorem sessionCommandsAreAccepted : Obligations.SessionCommandsAreAccepted := fun _ _ _ hb =>
  ⟨offer_of_idle hb fun s => { s.accept 6 _ _ .ok 7 with sst := .init },
    offer_of_idle hb fun s => { s.accept 7 _ _ .ok 16 with sst := .init }⟩

/-- Settles O13: each is the acceptance of its opcode, with ILLEGAL at row FIN. -/
theorem reservedCommandsAreAccepted : Obligations.ReservedCommandsAreAccepted := fun _ _ _ hb =>
  ⟨offer_of_idle hb _, offer_of_idle hb _, offer_of_idle hb _, offer_of_idle hb _, offer_of_idle hb _,
    offer_of_idle hb _, offer_of_idle hb _, offer_of_idle hb _, offer_of_idle hb _⟩

/-! ### No rule reads the command port (70_reset_and_hazards.md R216)

Which rule fires in an idle block depends on the command port; what a given rule does never. -/

/-- The state with the command inputs of `c` at its port. -/
def State.withCommand (c : Ports) (s : State) : State :=
  { s with ports := { s.ports with
      cmdValid := c.cmdValid, cmdOp := c.cmdOp, cmdArg0 := c.cmdArg0, cmdArg1 := c.cmdArg1 } }

section
variable (c : Ports) (s : State)

theorem State.tick_withCommand : (s.withCommand c).tick = s.tick.withCommand c := by
  simp only [State.tick, apply_ite (State.withCommand c)]
  rfl

theorem State.driveEn_withCommand (level : Bool) :
    (s.withCommand c).driveEn level = (s.driveEn level).withCommand c := by
  simp only [State.driveEn, apply_ite (State.withCommand c)]
  rfl

theorem State.driveRst_withCommand (level : Bool) :
    (s.withCommand c).driveRst level = (s.driveRst level).withCommand c := by
  simp only [State.driveRst, apply_ite (State.withCommand c)]
  rfl

theorem State.streamPop_withCommand :
    (s.withCommand c).streamPop = s.streamPop.map (Prod.map id (State.withCommand c)) := by
  cases hf : s.ports.rxFail <;> cases hq : s.rxq <;> simp [State.streamPop, State.withCommand, hf, hq]

theorem State.rstenCycle_withCommand : (s.withCommand c).rstenCycle = s.rstenCycle.withCommand c := by
  rw [State.rstenCycle, State.driveEn_withCommand]
  rfl

theorem State.settleCycle_withCommand : (s.withCommand c).settleCycle = s.settleCycle.withCommand c := by
  simp only [State.settleCycle, State.driveRst_withCommand, State.tick_withCommand, apply_ite (State.withCommand c)]
  rfl

theorem State.waitCycle_withCommand : (s.withCommand c).waitCycle = s.waitCycle.withCommand c := by
  simp only [State.waitCycle, State.tick_withCommand, apply_ite (State.withCommand c)]
  rfl

theorem State.drainCycle_withCommand : (s.withCommand c).drainCycle = s.drainCycle.withCommand c := by
  rw [State.drainCycle, State.drainCycle, State.streamPop_withCommand]
  cases s.streamPop <;> rfl

theorem State.huntCycle_withCommand : (s.withCommand c).huntCycle = s.huntCycle.withCommand c := by
  rw [State.huntCycle, State.huntCycle, State.streamPop_withCommand]
  cases s.streamPop <;> simp only [Option.map, apply_ite (State.withCommand c)] <;> rfl

theorem State.mark2Cycle_withCommand : (s.withCommand c).mark2Cycle = s.mark2Cycle.withCommand c := by
  rw [State.mark2Cycle, State.mark2Cycle, State.streamPop_withCommand]
  cases s.streamPop <;> simp only [Option.map, State.tick_withCommand, apply_ite (State.withCommand c)] <;> rfl

theorem State.microOp_withCommand (op : MicroOp) : (s.withCommand c).microOp op = (s.microOp op).withCommand c := by
  cases op with
  | rst =>
    simp only [State.microOp, State.rstOp, State.driveRst_withCommand, apply_ite (State.withCommand c)]
    rfl
  | en =>
    simp only [State.microOp, State.enOp, State.driveEn_withCommand, apply_ite (State.withCommand c)]
    rfl
  | dis =>
    simp only [State.microOp, State.disOp, State.driveEn_withCommand, apply_ite (State.withCommand c)]
    rfl
  | bcancel target =>
    simp only [State.microOp, apply_ite (State.withCommand c)]
    rfl
  | wait o => cases o <;> rfl
  | fin | drain | recv | bzw | bnogot | bnosleep | report | nop => rfl

theorem State.rowCycle_withCommand : (s.withCommand c).rowCycle = s.rowCycle.withCommand c := by
  have hop := State.microOp_withCommand c { s with sst := (rowAt s.upc).sst.getD s.sst } (rowAt s.upc).op
  rw [State.rowCycle, State.rowCycle, State.labelSession_eq, State.labelSession_eq]
  exact congrArg (fun v : State => { v with upc := (rowAt s.upc).nextRow s }) hop

/-- A cycle's end brings the next command to the port, so two answers that differ in the command inputs alone end
alike. -/
theorem finish_next_withCommand {c : Ports} {t u : State} (h : t = u.withCommand c) :
    finish (.next t) = finish (.next u) := by
  subst h
  rfl

theorem finish_storeBody_withCommand (b : Byte) :
    finish ((s.withCommand c).storeBody b) = finish (s.storeBody b) := by
  by_cases hcnt : s.cnt.toNat < 32
  · rw [State.storeBody, State.storeBody, dif_pos hcnt, dif_pos (show (s.withCommand c).cnt.toNat < 32 from hcnt)]
    exact finish_next_withCommand (State.tick_withCommand c { s with
      buf := s.buf.set s.cnt.toNat b hcnt, cnt := s.cnt + 1
      ust := if s.cnt + 1 = frameLen then .check else s.ust })
  · rw [State.storeBody, State.storeBody, dif_neg hcnt, dif_neg (show ¬(s.withCommand c).cnt.toNat < 32 from hcnt)]

theorem finish_bodyCycle_withCommand : finish (s.withCommand c).bodyCycle = finish s.bodyCycle := by
  rw [State.bodyCycle, State.bodyCycle, State.streamPop_withCommand, State.tick_withCommand]
  rcases s.streamPop with _ | ⟨b, t⟩
  · simp only [Option.map, apply_ite finish, apply_ite Host.Outcome.next]
    rfl
  · simp only [Option.map, Prod.map, apply_ite finish, finish_storeBody_withCommand]
    rfl

theorem finish_execFrame_withCommand (f : Frame) : finish (execFrame f (s.withCommand c)) = finish (execFrame f s) := by
  unfold execFrame
  rcases decodeBuf f.toBuf with ⟨_ | _, fields⟩ <;> rfl

theorem finish_command_withCommand (op : BitVec 4) (arg0 arg1 : Word) :
    finish (exec (decodeCommand op arg0 arg1) (s.withCommand c)) = finish (exec (decodeCommand op arg0 arg1) s) := by
  rw [exec_decodeCommand, exec_decodeCommand, offer, offer, apply_ite finish, apply_ite finish]
  rfl

/-- What a rule does, it does whatever the command inputs are. -/
theorem finish_fire_withCommand (r : CycleRule) : finish (fire r (s.withCommand c)) = finish (fire r s) := by
  cases r with
  | rst | idle => rfl
  | instr i =>
    obtain ⟨f, rfl⟩ | ⟨op, arg0, arg1, rfl⟩ := i.frame_or_command
    · exact finish_execFrame_withCommand c s f
    · exact finish_command_withCommand c s op arg0 arg1
  | row => exact finish_next_withCommand (s.rowCycle_withCommand c)
  | rsten => exact finish_next_withCommand (s.rstenCycle_withCommand c)
  | settle => exact finish_next_withCommand (s.settleCycle_withCommand c)
  | wait => exact finish_next_withCommand (s.waitCycle_withCommand c)
  | drain => exact finish_next_withCommand (s.drainCycle_withCommand c)
  | hunt => exact finish_next_withCommand (s.huntCycle_withCommand c)
  | mark2 => exact finish_next_withCommand (s.mark2Cycle_withCommand c)
  | body => exact finish_bodyCycle_withCommand c s

end

/-- A busy block does not see the command port (30_encoding.md R92, 70_reset_and_hazards.md R216). -/
theorem step_withCommand_of_busy {s : State} (hb : s.busy = true) (c : Ports) : step (s.withCommand c) = step s := by
  have hrule : (s.withCommand c).rule = s.rule := by simp [State.rule, State.withCommand, State.busyRule, hb]
  rw [step, step, hrule]
  exact finish_fire_withCommand c s.beginCycle s.rule

/-! ### A cycle of an idle block, and the last of a command (30_encoding.md R92) -/

theorem step_of_idle {s : State} (hr : s.ports.rst = false) (hb : s.busy = false) (hv : s.ports.cmdValid = false) :
    step s = .next s.beginCycle.endCycle :=
  step_iff_cycle.2 ⟨s.beginCycle, .idle hr hb hv, rfl⟩

theorem step_of_command {s : State} (hr : s.ports.rst = false) (hb : s.busy = false) (hv : s.ports.cmdValid = true) :
    step s = .next (s.beginCycle.takeCommand s.ports.cmdOp s.ports.cmdArg0 s.ports.cmdArg1).endCycle :=
  step_iff_cycle.2 ⟨_, .accept (s := s.beginCycle) hr hb hv, rfl⟩

/-- The FIN row (44_session.md R152). -/
theorem State.rowCycle_of_fin {s : State} (hupc : s.upc = 0) :
    s.rowCycle = { s with busy := false, doneStb := true, upc := 0 } := by
  rw [State.rowCycle, hupc]
  rfl

theorem step_of_fin {s : State} (hrun : Running .idle s) (hupc : s.upc = 0) :
    step s = .next (State.endCycle { s.beginCycle with busy := false, doneStb := true, upc := 0 }) :=
  step_iff_cycle.2 ⟨_, .row (s := s.beginCycle) hrun, by rw [State.rowCycle_of_fin (s := s.beginCycle) hupc]⟩

/-- The assigned opcodes have the rows of the spec's list, the others go to FIN (30_encoding.md R91, R92). -/
theorem entryRow_eq : ∀ op : BitVec 4,
    entryRow op =
      if (1 ≤ op.toNat && op.toNat ≤ 7 : Bool) then ([0, 1, 2, 3, 4, 6, 7, 16] : List RowNum).getD op.toNat 0
      else 0 := by
  decide

/-- The assigned opcodes begin with OK, the others with ILLEGAL (30_encoding.md R91, R92). -/
theorem entryCode_eq : ∀ op : BitVec 4,
    entryCode op = if (1 ≤ op.toNat && op.toNat ≤ 7 : Bool) then .ok else .illegal := by
  decide

/-- A reserved opcode goes to FIN with ILLEGAL and begins no session (30_encoding.md R91). -/
theorem entry_of_reserved : ∀ op : BitVec 4, op = 0 ∨ 8 ≤ op →
    entryRow op = 0 ∧ entryCode op = .illegal ∧ ¬(op = 6 ∨ op = 7) := by
  decide

/-! ### The inputs ahead (10_state.md R40) -/

theorem Ahead.head {k : Nat} {p : Ports → Bool} {s : State} (h : Ahead (k + 1) p s) : p s.ports = true := by
  obtain ⟨-, hall⟩ := h
  rw [State.portsAhead, List.take_succ_cons, List.all_cons, Bool.and_eq_true] at hall
  exact hall.1

/-- A cycle that leaves the list of inputs alone uses up the first of them. -/
theorem Ahead.endCycle {k : Nat} {p : Ports → Bool} {s u : State} (h : Ahead (k + 2) p s)
    (hupcoming : u.upcoming = s.upcoming) : Ahead (k + 1) p u.endCycle := by
  obtain ⟨hlen, hall⟩ := h
  cases hs : s.upcoming with
  | nil => simp [State.portsAhead, hs] at hlen
  | cons e es =>
    have hports : s.portsAhead = s.ports :: u.endCycle.portsAhead := by
      simp [State.portsAhead, State.nextEnv, hupcoming, hs]
    rw [hports, List.length_cons] at hlen
    rw [hports, List.take_succ_cons, List.all_cons, Bool.and_eq_true] at hall
    exact ⟨Nat.le_of_succ_le_succ hlen, hall.2⟩

/-! ### The obligations on the step -/

/-- Settles O15: an idle block takes the command or waits, a busy one does not see the port, and only FIN is done. -/
theorem acceptanceCycle : Obligations.AcceptanceCycle := by
  intro s hr
  refine ⟨fun _ => cmdReady_of_noRst hr, fun hb => ⟨?_, fun v op arg0 arg1 => ?_⟩, s.cmdReady_iff.2,
    step_of_idle hr, fun hb hv => ?_, fun hb hust hv => ?_, fun t hstep hdone => ?_⟩
  · simp [State.cmdReady, hb]
  · exact step_withCommand_of_busy hb { Ports.quiet with cmdValid := v, cmdOp := op, cmdArg0 := arg0, cmdArg1 := arg1 }
  · rw [step_of_command hr hb hv, State.takeCommand, State.accept, entryRow_eq, entryCode_eq]
    rfl
  · exact ⟨_, step_of_command hr hb hv, fun hrst => ⟨hrst, rfl, hust⟩⟩
  · obtain ⟨hdone_iff, -⟩ := strobesNameTheirRules s t hstep
    obtain ⟨hrun, hupc⟩ := hdone_iff.1 hdone
    rw [step_of_fin hrun hupc] at hstep
    cases hstep
    exact ⟨by simp [State.cmdReady, hrun.busy], rfl⟩

/-- Settles O52: the acceptance and the FIN row. -/
theorem reservedCommandCompletesIllegal : Obligations.ReservedCommandCompletesIllegal := by
  rintro s ⟨hr, hb, hust, hv, -⟩ hop hahead
  obtain ⟨hrow, hcode, hsession⟩ := entry_of_reserved s.ports.cmdOp hop
  have hnext : s.beginCycle.nextEnv.ports.rst = false := by
    simpa [Ports.noReset] using (hahead.endCycle (u := s.beginCycle) rfl).head
  refine ⟨_, _, step_of_command hr hb hv, rfl, step_of_fin ⟨hnext, rfl, hust⟩ hrow,
    rfl, rfl, hcode, rfl, rfl, rfl, rfl, if_neg hsession, rfl, rfl, rfl, rfl⟩

end Sys2Proof.Machine
end

section
/-! PROOFS. The family 41_decoder.md: DECODE compares the sum of bytes 0 to 29 with the declared checksum and reads the
twelve fields (R100 to R106). -/

namespace Sys2Proof.Machine

/-! ### The sum of the bytes (41_decoder.md R101, R102) -/

/-- The sum of bytes 0 to 29, before it is reduced (41_decoder.md R101). -/
def byteSum (b : Vector Byte 32) : Nat := ∑ k : Fin 30, b[k.val].toNat

theorem map_toNat_take_toList (b : Vector Byte 32) :
    (b.toList.take sumLen).map BitVec.toNat = List.ofFn fun k : Fin 30 => b[k.val].toNat :=
  List.ext_getElem (by simp [sumLen]) fun i _ _ => by rw [List.getElem_ofFn]; simp

theorem toNat_checksum_toList (b : Vector Byte 32) : (checksum b.toList).toNat = byteSum b % 65536 := by
  rw [checksum, map_toNat_take_toList, List.sum_ofFn, BitVec.toNat_ofNat, byteSum]

/-- Thirty bytes of at most 255 (41_decoder.md R102). -/
theorem byteSum_le (b : Vector Byte 32) : byteSum b ≤ 7650 :=
  Finset.sum_le_card_nsmul Finset.univ _ 255 fun k _ => Nat.le_of_lt_succ b[k.val].isLt

theorem byteSum_set {k : Nat} (hk : k < 30) (b : Vector Byte 32) (v : Byte) :
    byteSum (b.set k v) + b[k].toNat = byteSum b + v.toNat := by
  have hset : (fun i : Fin 30 => (b.set k v)[i.val].toNat) =
      Function.update (fun i : Fin 30 => b[i.val].toNat) ⟨k, hk⟩ v.toNat := by
    funext i
    simp [Function.update_apply, Vector.getElem_set, Fin.ext_iff, eq_comm, apply_ite BitVec.toNat]
  have hsplit : ∑ i ∈ Finset.univ.erase (⟨k, hk⟩ : Fin 30), b[i.val].toNat + b[k].toNat = byteSum b :=
    Finset.sum_erase_add Finset.univ (fun i : Fin 30 => b[i.val].toNat) (Finset.mem_univ _)
  rw [byteSum, hset, Finset.sum_update_of_mem (Finset.mem_univ _), Finset.sdiff_singleton_eq_erase]
  omega

/-- The declared checksum is not summed (41_decoder.md R101). -/
theorem byteSum_set_of_le {k : Nat} (hk : 30 ≤ k) (hlt : k < 32) (b : Vector Byte 32) (v : Byte) :
    byteSum (b.set k v) = byteSum b :=
  Finset.sum_congr rfl fun i _ => by rw [Vector.getElem_set_ne _ _ (by omega)]

/-! ### DECODE on a buffer (41_decoder.md R100 to R104) -/

theorem decodeBuf_valid_iff (b : Vector Byte 32) :
    (decodeBuf b).1 = true ↔ byteSum b % 65536 = b[30].toNat * 256 + b[31].toNat := by
  rw [decodeBuf, beq_iff_eq, ← BitVec.toNat_inj, toNat_checksum_toList, Frame.ofBuf, u16_toNat]

/-- The reduction modulo 65536 never changes the sum (41_decoder.md R102). -/
theorem decodeBuf_valid_iff_byteSum (b : Vector Byte 32) :
    (decodeBuf b).1 = true ↔ byteSum b = b[30].toNat * 256 + b[31].toNat := by
  rw [decodeBuf_valid_iff, Nat.mod_eq_of_lt (Nat.lt_of_le_of_lt (byteSum_le b) (by decide))]

theorem decodeBuf_invalid_iff (b : Vector Byte 32) :
    (decodeBuf b).1 = false ↔ byteSum b ≠ b[30].toNat * 256 + b[31].toNat := by
  rw [Ne, ← decodeBuf_valid_iff_byteSum, Bool.not_eq_true]

/-! ### DECODE on an encoded frame (41_decoder.md R106) -/

theorem checksum_toBytes_of_chk (f : Frame) (c : Half) : checksum { f with chk := c }.toBytes = checksum f.toBytes := by
  have hlen : ([f.mark0, f.mark1] ++ halfBytes f.hdr0 ++ halfBytes f.hdr1 ++ f.rd.toList.flatMap halfBytes).length =
      sumLen := by
    simp [halfBytes, List.length_flatMap]
  rw [checksum, checksum, Frame.toBytes, Frame.toBytes, List.take_left' hlen, List.take_left' hlen]

theorem decodeBuf_toBuf (f : Frame) : decodeBuf f.toBuf = (checksum f.toBytes == f.chk, f.rd) := by
  rw [decodeBuf, Frame.toList_toBuf, Frame.ofBuf_toBuf]

/-! ### The obligations -/

/-- Settles O5: two numbers below 65536 are compared, and 0x1E00 is above 7650. -/
theorem decodeComparesTheSums : Obligations.DecodeComparesTheSums := fun b =>
  ⟨decodeBuf_valid_iff b, byteSum_le b, fun h30 => (decodeBuf_invalid_iff b).2 (by have := byteSum_le b; omega)⟩

/-- Settles O6, by the field's two bytes. -/
theorem decodeReadsTheFields : Obligations.DecodeReadsTheFields := by
  intro b j
  have hlow : rdBase + 2 * j.val + 1 = 7 + 2 * j.val := by simp only [rdBase]; omega
  simp only [decodeBuf, Frame.ofBuf, Fin.getElem_fin, Vector.getElem_ofFn, u16_toNat, hlow]

/-- Settles O7: the checksum declared is the one computed, since it does not depend on itself. -/
theorem encodedReadingDecodes : Obligations.EncodedReadingDecodes := by
  intro fields h0 h1
  have hchk : checksum (encodeReading fields h0 h1).toBytes = (encodeReading fields h0 h1).chk :=
    checksum_toBytes_of_chk ⟨mark0Byte, mark1Byte, h0, h1, fields, 0⟩ _
  rw [decodeBuf_toBuf, hchk, beq_self_eq_true]
  rfl

/-- Settles O8: a changed byte changes the sum alone, a changed checksum the declared number alone. -/
theorem oneChangedByteIsInvalid : Obligations.OneChangedByteIsInvalid := by
  intro b hvalid
  rw [decodeBuf_valid_iff_byteSum] at hvalid
  refine ⟨fun k hk v hv => ?_, fun x y hxy => ?_⟩
  · have hsum := byteSum_set hk b v
    have hne : v.toNat ≠ b[k].toNat := mt BitVec.eq_of_toNat_eq hv
    rw [decodeBuf_invalid_iff, Vector.getElem_set_ne _ _ (by omega), Vector.getElem_set_ne _ _ (by omega)]
    omega
  · have h30 : ((b.set 30 x).set 31 y)[30] = x := by simp
    rw [decodeBuf_invalid_iff, byteSum_set_of_le (by decide), byteSum_set_of_le (by decide), hvalid, h30,
      Vector.getElem_set_self]
    simp only [← BitVec.toNat_inj] at hxy
    omega

end Sys2Proof.Machine
end

section
/-! PROOFS. The family 42_synchronizer.md, one cycle at a time: the RECV rows, the four micro-states of a receive, and
that a candidate gathered in order never runs out of offsets (R111 to R115). -/

namespace Sys2Proof.Machine

/-! ### From a cycle to its step (44_session.md R150) -/

theorem step_of_cycle {s u : State} (h : Cycle s.beginCycle u) : step s = .next u.endCycle :=
  step_iff_cycle.2 ⟨u, h, rfl⟩

theorem step_of_quiet {s u v : State} (h : QuietCycle s.beginCycle u) (heq : u = v) : step s = .next v.endCycle :=
  heq ▸ step_of_cycle (.quiet h)

/-! ### The RECV rows (42_synchronizer.md R111) -/

theorem State.rowCycle_of_recv {s : State} (hop : (rowAt s.upc).op = .recv) :
    s.rowCycle = { s with
      sst := (rowAt s.upc).sst.getD s.sst, got := false, cnt := 0, ust := .hunt, upc := (rowAt s.upc).next } := by
  rw [State.rowCycle, State.labelSession_eq, Row.nextRow, hop]
  rfl

theorem step_of_recv {s : State} (hrun : Running .idle s) (hop : (rowAt s.upc).op = .recv) :
    step s = .next (State.endCycle { s.beginCycle with
      sst := (rowAt s.upc).sst.getD s.sst, got := false, cnt := 0, ust := .hunt, upc := (rowAt s.upc).next }) := by
  rw [step_of_cycle (.row (s := s.beginCycle) hrun), State.rowCycle_of_recv (s := s.beginCycle) hop]
  rfl

/-- Settles O24, by the table's three RECV rows. -/
theorem recvRowStartsAReceive : Obligations.RecvRowStartsAReceive := by
  intro s next label hrun hrow
  simp only [List.mem_cons, List.not_mem_nil, or_false, Prod.mk.injEq] at hrow
  have hop : (rowAt s.upc).op = .recv := by
    obtain ⟨hupc, -⟩ | ⟨hupc, -⟩ | ⟨hupc, -⟩ := hrow <;> rw [hupc] <;> rfl
  rw [step_of_recv hrun hop]
  obtain ⟨hupc, rfl, rfl⟩ | ⟨hupc, rfl, rfl⟩ | ⟨hupc, rfl, rfl⟩ := hrow <;> rw [hupc] <;> rfl

/-! ### U_HUNT, U_MARK2 and U_BODY (42_synchronizer.md R112 to R114) -/

/-- Settles O25, by what a cycle of U_HUNT can do. -/
theorem huntCycle : Obligations.HuntCycle := by
  intro s hrun
  refine step_of_quiet (.hunt (s := s.beginCycle) hrun) ?_
  have hcases := s.beginCycle.huntCycle_cases
  simp only [State.beginCycle_cancel, State.beginCycle_ports, State.beginCycle_rxq] at hcases
  obtain ⟨hc, h⟩ | ⟨hc, hf, h⟩ | ⟨rest, hc, hf, hq, h⟩ | ⟨b, rest, hc, hf, hb, hq, h⟩ | ⟨hc, hf, hq, h⟩ := hcases
  · rw [hc]; exact h
  · rw [hc, hf]; exact h
  · rw [hc, hf, hq]; exact h
  · rw [hc, hf, hq]; exact h.trans (if_neg hb).symm
  · rw [hc, hf, hq]; exact h

/-- Settles O26, by what a cycle of U_MARK2 can do. -/
theorem markCycle : Obligations.MarkCycle := by
  intro s hrun
  refine step_of_quiet (.mark2 (s := s.beginCycle) hrun) ?_
  have hcases := s.beginCycle.mark2Cycle_cases
  simp only [State.beginCycle_cancel, State.beginCycle_ports, State.beginCycle_rxq, State.beginCycle_tmr] at hcases
  obtain ⟨hf, h⟩ | ⟨rest, hf, hc, hq, h⟩ | ⟨rest, hf, hc, hq, h⟩ | ⟨b, rest, hf, hb, hq, h⟩ | ⟨hf, hq, ht, h⟩ |
    ⟨hf, hq, ht, h⟩ := hcases
  · rw [hf]; exact h
  · rw [hf, hq, hc]; exact h
  · rw [hf, hq, hc]; exact h
  · rw [hf, hq]; exact h.trans (if_neg hb).symm
  · rw [hf, hq, if_pos ht]; exact h
  · rw [hf, hq, if_neg ht]; exact h

theorem cnt_succ_eq_ofNat (c : BitVec 6) : c + 1 = BitVec.ofNat 6 (c.toNat + 1) := by bv_omega

theorem cnt_succ_eq_frameLen_iff (c : BitVec 6) : c + 1 = frameLen ↔ c.toNat + 1 = 32 := by bv_omega

/-- Settles O27, by what a cycle of U_BODY can do; the offset exists. -/
theorem bodyCycle : Obligations.BodyCycle := by
  intro s hrun _ hcnt
  have hcases := s.beginCycle.bodyCycle_cases
  simp only [State.beginCycle_ports, State.beginCycle_rxq, State.beginCycle_tmr, State.beginCycle_cnt] at hcases
  obtain ⟨hf, h⟩ | ⟨b, rest, hf, hq, _, h⟩ | ⟨_, _, -, -, hmissing, -⟩ | ⟨hf, hq, ht, h⟩ | ⟨hf, hq, ht, h⟩ := hcases
  case inr.inr.inl => omega
  all_goals refine step_of_quiet (.body (s := s.beginCycle) hrun h) ?_
  · rw [hf]; rfl
  · rw [hf, hq, ← cnt_succ_eq_ofNat]
    simp only [cnt_succ_eq_frameLen_iff, State.beginCycle_ust, hrun.ust]
    rfl
  · rw [hf, hq, if_pos ht]; rfl
  · rw [hf, hq, if_neg ht]; rfl

/-! ### U_CHECK (42_synchronizer.md R115) -/

theorem execFrame_eq (f : Frame) (s : State) :
    execFrame f s =
      if checksum f.toBytes = f.chk then .next { s with rd := f.rd, got := true, res := .ok, ust := .idle }
      else .next { s with evChk := true, cnt := 0, ust := .hunt } := by
  rw [execFrame, decodeBuf_toBuf]
  by_cases h : checksum f.toBytes = f.chk
  · rw [if_pos h, h, beq_self_eq_true]
  · rw [if_neg h, beq_eq_false_iff_ne.2 h]
    rfl

/-- Settles O9: DECODE of a frame compares its checksum, and the U_CHECK cycle loads or discards what stands in BUF. -/
theorem frameCycleLoadsOrDiscards : Obligations.FrameCycleLoadsOrDiscards := by
  refine ⟨execFrame_eq, fun s hrun => ?_⟩
  cases hvalid : (decodeBuf s.buf).1
  · exact step_of_cycle (.quiet (.invalid (s := s.beginCycle) hrun hvalid))
  · exact step_of_cycle (.load (s := s.beginCycle) hrun hvalid)

/-! ### No cycle stops (42_synchronizer.md R114) -/

/-- Settles O43: the one stop is at an offset above 31, and a body gathered in order has `cnt` at most 31. -/
theorem gatheringNeverStops : Obligations.GatheringNeverStops := by
  refine fun s hinv => step_of_not_overruns fun ⟨hrun, _, _, hmissing⟩ => ?_
  obtain ⟨-, -, -, -, hbody, -⟩ := hinv
  obtain ⟨-, hcnt, -⟩ := hbody hrun.ust
  bv_omega

end Sys2Proof.Machine
end

section
/-! PROOFS. Runs of several cycles: the inputs ahead are used up one by one, and a routine that repeats its cycle is
followed by counting the cycles left down; the ticks a timer has left. -/

namespace Sys2Proof.Machine

/-! ### The inputs ahead (10_state.md R40) -/

/-- No rule writes the list of inputs. -/
theorem Cycle.upcoming {s u : State} (h : Cycle s u) : u.upcoming = s.upcoming := by
  obtain hstream | ⟨-, -, -, -, _, _, -, hstream⟩ := h.stream_cases
  · exact congrArg StreamSide.upcoming hstream
  · exact congrArg StreamSide.upcoming hstream

section
variable {k : Nat} {p : Ports → Bool} {s t : State}

theorem Ahead.mono {m : Nat} (h : Ahead k p s) (hle : m ≤ k) : Ahead m p s := by
  obtain ⟨hlen, hall⟩ := h
  rw [List.all_eq_true] at hall
  exact ⟨hle.trans hlen, List.all_eq_true.2 fun x hx => hall x (List.take_subset_take_left _ hle hx)⟩

theorem Ahead.of_step (h : Ahead (k + 2) p s) (hstep : step s = .next t) : Ahead (k + 1) p t := by
  obtain ⟨u, hc, rfl⟩ := step_iff_cycle.1 hstep
  exact h.endCycle hc.upcoming

theorem Ahead.upcoming_ne_nil (h : Ahead (k + 2) p s) : s.upcoming ≠ [] := by
  intro hnil
  obtain ⟨hlen, -⟩ := h
  simp [State.portsAhead, hnil] at hlen

theorem NoArrivals.head (h : NoArrivals (k + 1) s) (hlisted : s.upcoming ≠ []) : s.nextEnv.arrivals = [] := by
  obtain ⟨e, es, hs⟩ := List.exists_cons_of_ne_nil hlisted
  simp only [NoArrivals, hs, List.take_succ_cons, List.all_cons, Bool.and_eq_true, List.isEmpty_iff] at h
  simpa [State.nextEnv, hs] using h.1

theorem NoArrivals.endCycle {u : State} (h : NoArrivals (k + 1) s) (hupcoming : u.upcoming = s.upcoming) :
    NoArrivals k u.endCycle := by
  rw [NoArrivals, State.endCycle_upcoming, hupcoming]
  cases hs : s.upcoming with
  | nil => simp
  | cons e es =>
    simp only [NoArrivals, hs, List.take_succ_cons, List.all_cons, Bool.and_eq_true] at h
    exact h.2

end

/-! ### Counting cycles down -/

/-- A property of the cycles left and the state, handed on by every cycle while there are cycles left, holds at the end
of the run. -/
theorem runCycles_countdown {I : Nat → State → Prop}
    (hstep : ∀ k s, I (k + 1) s → ∃ t, step s = .next t ∧ I k t) {n : Nat} {s : State} (h : I n s) :
    ∃ t, runCycles n s = .next t ∧ I 0 t := by
  induction n generalizing s with
  | zero => exact ⟨s, rfl, h⟩
  | succ n ih =>
    obtain ⟨u, hu, hI⟩ := hstep n s h
    obtain ⟨t, ht, hend⟩ := ih hI
    exact ⟨t, (runCycles_succ n hu).trans ht, hend⟩

/-! ### The ticks a timer has left (60_exceptions.md R195) -/

/-- The ticks until the timer expires, where the prescaler is in its range. -/
def State.ticksLeft (s : State) : Nat := s.tmr.toNat * s.par.nMs - s.pre

theorem State.ticksLeft_eq_zero_iff {s : State} (hpre : s.pre < s.par.nMs) : s.ticksLeft = 0 ↔ s.tmr = 0 := by
  constructor
  · intro h
    by_contra htmr
    have hpos : 1 ≤ s.tmr.toNat := by bv_omega
    have hle : 1 * s.par.nMs ≤ s.tmr.toNat * s.par.nMs := Nat.mul_le_mul_right _ hpos
    rw [State.ticksLeft] at h
    omega
  · intro h
    simp [State.ticksLeft, h]

theorem State.ticksLeft_tick {s : State} (hpre : s.pre < s.par.nMs) : s.tick.ticksLeft = s.ticksLeft - 1 := by
  by_cases htmr : s.tmr = 0
  · rw [State.tick_of_expired htmr, (State.ticksLeft_eq_zero_iff hpre).2 htmr]
  by_cases hlast : s.pre = s.par.nMs - 1
  · have hdec : (s.tmr - 1).toNat = s.tmr.toNat - 1 := by bv_omega
    have hmul : (s.tmr.toNat - 1) * s.par.nMs = s.tmr.toNat * s.par.nMs - s.par.nMs := Nat.sub_one_mul _ _
    simp only [State.tick_of_last htmr hlast, State.ticksLeft, hdec, hmul]
    omega
  · simp only [State.tick_of_within htmr hlast, State.ticksLeft]
    omega

end Sys2Proof.Machine
end

section
/-! PROOFS. The family 42_synchronizer.md, the short window: without a byte it closes 100 ms after it opened (R117). -/

namespace Sys2Proof.Machine

/-- A cycle of U_MARK2 or U_BODY without a byte and without a failure (42_synchronizer.md R113, R114). -/
def State.silentCycle (s : State) : State := if s.tmr = 0 then s.discardToHunt else s.tick

theorem State.mark2Cycle_of_silence {s : State} (hf : s.ports.rxFail = false) (hq : s.rxq = []) :
    s.mark2Cycle = s.silentCycle := by
  simp [State.mark2Cycle, State.rxFail, hf, State.streamPop_eq_none_iff.2 (.inr hq), State.silentCycle]

theorem State.bodyCycle_of_silence {s : State} (hf : s.ports.rxFail = false) (hq : s.rxq = []) :
    s.bodyCycle = .next s.silentCycle := by
  simp [State.bodyCycle, State.rxFail, hf, State.streamPop_eq_none_iff.2 (.inr hq), State.silentCycle]

theorem step_of_silence {v : Ust} (hv : v = .mark2 ∨ v = .body) {s : State} (hrun : Running v s)
    (hf : s.ports.rxFail = false) (hq : s.rxq = []) : step s = .next s.beginCycle.silentCycle.endCycle := by
  obtain rfl | rfl := hv
  · exact step_of_quiet (.mark2 (s := s.beginCycle) hrun) (State.mark2Cycle_of_silence (s := s.beginCycle) hf hq)
  · exact step_of_quiet (.body (s := s.beginCycle) hrun (State.bodyCycle_of_silence (s := s.beginCycle) hf hq)) rfl

/-- The window of micro-state `v` is open for `j + left` ticks more, and `j` silent cycles are ahead. -/
def SilentWindow (v : Ust) (left j : Nat) (s : State) : Prop :=
  s.busy = true ∧ s.ust = v ∧ s.rxq = [] ∧ s.pre < s.par.nMs ∧ s.ticksLeft = j + left ∧
    Ahead (j + 1) Ports.noFail s ∧ NoArrivals j s

theorem Ports.noFail_iff (p : Ports) : Ports.noFail p = true ↔ p.rst = false ∧ p.rxFail = false := by simp [Ports.noFail]

section
variable {v : Ust} (hv : v = .mark2 ∨ v = .body) {left : Nat} {s : State}
include hv

theorem SilentWindow.step_eq {j : Nat} (h : SilentWindow v left j s) :
    step s = .next s.beginCycle.silentCycle.endCycle := by
  obtain ⟨hb, hust, hq, -, -, hahead, -⟩ := h
  obtain ⟨hr, hf⟩ := (Ports.noFail_iff _).1 hahead.head
  exact step_of_silence hv ⟨hr, hb, hust⟩ hf hq

theorem SilentWindow.step {j : Nat} (h : SilentWindow v left (j + 1) s) :
    ∃ t, step s = .next t ∧ SilentWindow v left j t := by
  have hstep := h.step_eq hv
  obtain ⟨hb, hust, hq, hpre, hleft, hahead, hsilent⟩ := h
  have hopen : s.tmr ≠ 0 := fun h0 => by
    have := (State.ticksLeft_eq_zero_iff hpre).2 h0
    omega
  have htick : s.beginCycle.silentCycle = s.beginCycle.tick := if_neg hopen
  rw [htick] at hstep
  refine ⟨_, hstep, by simp [hb], by simp [hust], ?_, ?_, ?_, hahead.of_step hstep, hsilent.endCycle (by simp)⟩
  · have henv : s.beginCycle.tick.nextEnv = s.nextEnv := State.nextEnv_congr (by simp) (by simp)
    simp [hq, henv, hsilent.head hahead.upcoming_ne_nil]
  · simpa using State.tick_pre_lt (s := s.beginCycle) hpre
  · have := State.ticksLeft_tick (s := s.beginCycle) hpre
    show s.beginCycle.tick.ticksLeft = j + left
    have hsame : s.beginCycle.ticksLeft = s.ticksLeft := rfl
    omega

/-- The window stays open through the silent cycles. -/
theorem SilentWindow.run {j : Nat} (h : SilentWindow v left j s) :
    ∃ t, runCycles j s = .next t ∧ SilentWindow v left 0 t :=
  runCycles_countdown (I := SilentWindow v left) (fun _ _ h => h.step hv) h

end

/-- Settles O28: the ticks left count down from 100 ms, and the cycle after the last discards the candidate. -/
theorem shortWindowClosesInTime : Obligations.ShortWindowClosesInTime := by
  intro s v hv ⟨_, hb, hust⟩ htmr hpre hq hahead
  have hpre' : s.pre < s.par.nMs := hpre ▸ Params.nMs_pos s.par
  have hleft : s.ticksLeft = 100 * s.par.nMs := by simp [State.ticksLeft, htmr, hpre]
  refine ⟨fun k hk hsilent => ?_, fun hsilent => ?_⟩
  · have hwindow : SilentWindow v (100 * s.par.nMs - k) k s :=
      ⟨hb, hust, hq, hpre', by omega, hahead.mono (by omega), hsilent⟩
    obtain ⟨t, hrun, -, hust', -, hpre'', hleft', -⟩ := hwindow.run hv
    exact ⟨t, hrun, hust', fun h0 => by
      have := (State.ticksLeft_eq_zero_iff hpre'').2 h0
      omega⟩
  · have hwindow : SilentWindow v 0 (100 * s.par.nMs) s := ⟨hb, hust, hq, hpre', hleft, hahead, hsilent⟩
    obtain ⟨t, hrun, hclosed⟩ := hwindow.run hv
    have hstep := hclosed.step_eq hv
    obtain ⟨-, hust', -, hpre'', hleft', -⟩ := hclosed
    have hexpired : t.tmr = 0 := (State.ticksLeft_eq_zero_iff hpre'').1 hleft'
    have hdiscard : t.beginCycle.silentCycle = t.beginCycle.discardToHunt := if_pos hexpired
    rw [hdiscard] at hstep
    exact ⟨t, hrun, hust', hexpired, _, (runCycles_add 1 hrun).trans (runCycles_succ 0 hstep), rfl, rfl, rfl⟩

end Sys2Proof.Machine
end

section
/-! PROOFS. The family 42_synchronizer.md, a whole receive: a valid frame at the head of the stream is gathered in 32
cycles, loaded in the next, and nothing else is consumed (R119). -/

namespace Sys2Proof.Machine

/-! ### What a receive leaves alone -/

/-- The control registers, with the inputs that move at the end of every cycle blanked. -/
def State.held (s : State) : Control :=
  { s.control with latched := { s.latched with ports := Ports.quiet, cancel := false } }

theorem State.tick_eq (s : State) : s.tick = { s with tmr := s.tick.tmr, pre := s.tick.pre } := by
  by_cases htmr : s.tmr = 0
  · rw [State.tick_of_expired htmr]
  by_cases hlast : s.pre = s.par.nMs - 1
  · rw [State.tick_of_last htmr hlast]
  · rw [State.tick_of_within htmr hlast]

/-! ### A receive that nothing disturbs -/

/-- No cancellation is pending, and in the coming `k` cycles no reset, request or failure comes. -/
def Undisturbed (k : Nat) (s : State) : Prop := s.cancel = false ∧ Ahead k Ports.calm s

theorem Ports.calm_iff (p : Ports) :
    Ports.calm p = true ↔ p.rst = false ∧ p.cancelReq = false ∧ p.rxFail = false := by
  simp [Ports.calm, and_assoc]

theorem Undisturbed.of_step {k : Nat} {s t : State} (h : Undisturbed (k + 2) s) (hstep : step s = .next t) :
    Undisturbed (k + 1) t := by
  obtain ⟨hc, hahead⟩ := h
  obtain ⟨hr, hreq, -⟩ := (Ports.calm_iff _).1 hahead.head
  obtain ⟨-, hcancel, -⟩ := cancelIsSticky.1 s t hstep
  exact ⟨by rw [hcancel hr, hc, hreq]; rfl, hahead.of_step hstep⟩

theorem Undisturbed.noRst {k : Nat} {s : State} (h : Undisturbed (k + 1) s) : s.ports.rst = false :=
  ((Ports.calm_iff _).1 h.2.head).1

theorem Undisturbed.noFail {k : Nat} {s : State} (h : Undisturbed (k + 1) s) : s.ports.rxFail = false :=
  ((Ports.calm_iff _).1 h.2.head).2.2

/-! ### Gathering a frame (42_synchronizer.md R112 to R114) -/

/-- The micro-state of a block that has gathered `n` bytes of a candidate. -/
def Ust.gathering : Nat → Ust
  | 0 => .hunt
  | 1 => .mark2
  | n => if n = 32 then .check else .body

/-- `n` bytes of the frame `f` stand in BUF, and the others are at the head of the stream, before `rest`. -/
def Gathering (f : Vector Byte 32) (rest : List Byte) (n : Nat) (s : State) : Prop :=
  s.busy = true ∧ s.ust = Ust.gathering n ∧ s.cnt.toNat = n ∧ (∀ i (_ : i < 32), i < n → s.buf[i] = f[i]) ∧
    f.toList.drop n ++ rest <+: s.rxq

/-- The state after `b` was popped and stored as byte `n`. -/
def State.gather (b : Byte) (n : Nat) (hn : n < 32) (q : List Byte) (tmr : Word) (pre : Nat) (s : State) : State :=
  { s with
    rxq := q, rxPop := true, buf := s.buf.set n b, cnt := BitVec.ofNat 6 (n + 1), ust := Ust.gathering (n + 1)
    tmr := tmr, pre := pre }

theorem State.gather_tick (b : Byte) {n : Nat} (hn : n < 32) (q : List Byte) (tmr : Word) (pre : Nat) (s : State) :
    ∃ tmr' pre', (s.gather b n hn q tmr pre).tick = s.gather b n hn q tmr' pre' :=
  ⟨_, _, State.tick_eq _⟩

section
variable {f : Vector Byte 32} {rest : List Byte} {s : State}

theorem Gathering.next_byte {n : Nat} (hn : n < 32) (h : Gathering f rest n s) :
    ∃ q, s.rxq = f[n] :: q ∧ f.toList.drop (n + 1) ++ rest <+: q := by
  obtain ⟨-, -, -, -, hq⟩ := h
  rw [List.drop_eq_getElem_cons (by simpa using hn), List.cons_append, List.cons_prefix_iff] at hq
  simpa using hq

/-- Each of the three micro-states stores the byte it pops and hands on to the next. -/
theorem Gathering.step_eq {k n : Nat} (hn : n < 32) (hmarked : Marked f) (h : Gathering f rest n s)
    (hin : Undisturbed (k + 1) s) {q : List Byte} (hq : s.rxq = f[n] :: q) :
    ∃ tmr pre, step s = .next (s.beginCycle.gather f[n] n hn q tmr pre).endCycle := by
  obtain ⟨hb, hust, hcnt, -, -⟩ := h
  have hr := hin.noRst
  have hf := hin.noFail
  obtain ⟨hc, -⟩ := hin
  obtain ⟨hmark0, hmark1⟩ := hmarked
  match n with
  | 0 =>
    refine ⟨100, 0, ?_⟩
    rw [huntCycle s ⟨hr, hb, hust⟩, hc, hf, hq, hmark0]
    rfl
  | 1 =>
    refine ⟨100, 0, ?_⟩
    rw [markCycle s ⟨hr, hb, hust⟩, hf, hq, hmark1, hc]
    rfl
  | n + 2 =>
    have hbody : s.ust = .body := hust.trans (if_neg (by omega))
    have hstep := bodyCycle s ⟨hr, hb, hbody⟩ (by omega) (by omega)
    rw [hf, hq] at hstep
    simp only [hcnt] at hstep
    obtain ⟨tmr, pre, htick⟩ := s.beginCycle.gather_tick f[n + 2] hn q s.tmr s.pre
    exact ⟨tmr, pre, hstep.trans (congrArg (fun v : State => Host.Outcome.next v.endCycle) htick)⟩

theorem Gathering.succ {k n : Nat} (hn : n < 32) (hmarked : Marked f) (h : Gathering f rest n s)
    (hin : Undisturbed (k + 1) s) : ∃ t, step s = .next t ∧ Gathering f rest (n + 1) t ∧ t.held = s.held := by
  obtain ⟨q, hq, hprefix⟩ := h.next_byte hn
  obtain ⟨tmr, pre, hstep⟩ := h.step_eq hn hmarked hin hq
  obtain ⟨hb, -, -, hbuf, -⟩ := h
  refine ⟨_, hstep, ⟨hb, rfl, ?_, fun i hi hlt => ?_, hprefix.trans (List.prefix_append q _)⟩, rfl⟩
  · show (BitVec.ofNat 6 (n + 1)).toNat = n + 1
    rw [BitVec.toNat_ofNat]
    omega
  · show (s.buf.set n f[n])[i] = f[i]
    obtain rfl | hne := eq_or_ne i n
    · exact Vector.getElem_set_self hi
    · exact (Vector.getElem_set_ne _ _ hne.symm).trans (hbuf i hi (by omega))

/-- `j` bytes of the frame are still to be gathered, the control registers are as `c` has them, and nothing disturbs the
receive for `k` cycles after those. -/
def GatheringLeft (f : Vector Byte 32) (rest : List Byte) (c : Control) (k j : Nat) (s : State) : Prop :=
  ∃ n, n + j = 32 ∧ Gathering f rest n s ∧ s.held = c ∧ Undisturbed (k + j) s

theorem GatheringLeft.step {c : Control} {k j : Nat} (hmarked : Marked f)
    (h : GatheringLeft f rest c (k + 1) (j + 1) s) : ∃ t, step s = .next t ∧ GatheringLeft f rest c (k + 1) j t := by
  obtain ⟨n, hn, hgather, hheld, hin⟩ := h
  have hin : Undisturbed (k + j + 2) s := by rwa [show k + 1 + (j + 1) = k + j + 2 by omega] at hin
  obtain ⟨t, hstep, hnext, hkeep⟩ := hgather.succ (by omega) hmarked hin
  refine ⟨t, hstep, n + 1, by omega, hnext, hkeep.trans hheld, ?_⟩
  rw [show k + 1 + j = k + j + 1 by omega]
  exact hin.of_step hstep

/-- The 32 bytes of a frame are gathered in 32 cycles. -/
theorem Gathering.run {k : Nat} (hmarked : Marked f) (h : Gathering f rest 0 s) (hin : Undisturbed (k + 33) s) :
    ∃ t, runCycles 32 s = .next t ∧ Gathering f rest 32 t ∧ t.held = s.held ∧ Undisturbed (k + 1) t := by
  have hleft : GatheringLeft f rest s.held (k + 1) 32 s := ⟨0, rfl, h, rfl, by rwa [Nat.add_right_comm]⟩
  obtain ⟨t, hrun, n, hn, hgather, hheld, hin'⟩ := runCycles_countdown (fun _ _ h => h.step hmarked) hleft
  obtain rfl : n = 32 := hn
  exact ⟨t, hrun, hgather, hheld, hin'⟩

/-! ### Loading it (42_synchronizer.md R115) -/

theorem Gathering.buf_eq (h : Gathering f rest 32 s) : s.buf = f := by
  obtain ⟨-, -, -, hbuf, -⟩ := h
  exact Vector.ext fun i hi => hbuf i hi hi

/-- What a receive of the valid frame `f` leaves of the state `s` it began in: the Reading is loaded, and `rest` is next
in the stream. -/
def Received (f : Vector Byte 32) (rest : List Byte) (s t : State) : Prop :=
  t.ust = .idle ∧ t.got = true ∧ t.res = .ok ∧ rest <+: t.rxq ∧
    t.held = { s.held with latched := { s.held.latched with rd := (decodeBuf f).2 } }

theorem Gathering.load (h : Gathering f rest 32 s) (hvalid : (decodeBuf f).1 = true) (hr : s.ports.rst = false) :
    ∃ t, step s = .next t ∧ Received f rest s t := by
  obtain rfl := h.buf_eq
  obtain ⟨hb, hust, -, -, hq⟩ := h
  have hstep := step_of_cycle (.load (s := s.beginCycle) ⟨hr, hb, hust⟩ hvalid)
  have hdrop : s.buf.toList.drop 32 = [] := List.drop_eq_nil_of_le (by simp)
  rw [hdrop, List.nil_append] at hq
  exact ⟨_, hstep, rfl, rfl, rfl, hq.trans (List.prefix_append _ _), rfl⟩

/-- A valid frame at the head of the stream is received in 33 cycles of the hunt and its successors. -/
theorem Gathering.receive {k : Nat} (hmarked : Marked f) (hvalid : (decodeBuf f).1 = true)
    (h : Gathering f rest 0 s) (hin : Undisturbed (k + 34) s) :
    ∃ t, runCycles 33 s = .next t ∧ Received f rest s t ∧ Undisturbed (k + 1) t := by
  obtain ⟨u, hrun, hgather, hheld, hin⟩ := h.run (k := k + 1) hmarked hin
  obtain ⟨t, hstep, hreceived⟩ := hgather.load hvalid hin.noRst
  rw [Received, hheld] at hreceived
  exact ⟨t, (runCycles_add 1 hrun).trans (runCycles_succ 0 hstep), hreceived, hin.of_step hstep⟩

theorem Gathering.of_recv (hrun : Running .idle s) (hop : (rowAt s.upc).op = .recv)
    (hq : f.toList ++ rest <+: s.rxq) :
    ∃ t, step s = .next t ∧ Gathering f rest 0 t ∧
      t.held = { s.held with sst := (rowAt s.upc).sst.getD s.sst, upc := (rowAt s.upc).next } :=
  ⟨_, step_of_recv hrun hop,
    ⟨hrun.busy, rfl, rfl, fun _ _ hlt => absurd hlt (Nat.not_lt_zero _), hq.trans (List.prefix_append _ _)⟩, rfl⟩

/-- A RECV row and the receive it starts (42_synchronizer.md R111). -/
theorem receive_of_recv {k : Nat} (hin : Undisturbed (k + 35) s) (hb : s.busy = true) (hust : s.ust = .idle)
    (hop : (rowAt s.upc).op = .recv) (hq : f.toList ++ rest <+: s.rxq) (hmarked : Marked f)
    (hvalid : (decodeBuf f).1 = true) :
    ∃ t, runCycles 34 s = .next t ∧ Undisturbed (k + 1) t ∧
      Received f rest { s with sst := (rowAt s.upc).sst.getD s.sst, upc := (rowAt s.upc).next } t := by
  obtain ⟨u, hstep, hgather, hheld⟩ := Gathering.of_recv ⟨hin.noRst, hb, hust⟩ hop hq
  obtain ⟨t, hrun, hreceived, hin⟩ := hgather.receive hmarked hvalid (hin.of_step hstep)
  rw [Received, hheld] at hreceived
  exact ⟨t, (runCycles_succ 33 hstep).trans hrun, hin, hreceived⟩

end

/-! ### The command RECEIVE (42_synchronizer.md R110, R119) -/

theorem encodeReading_marked (fields : Vector Half 12) (h0 h1 : Half) : Marked (encodeReading fields h0 h1).toBuf :=
  ⟨rfl, rfl⟩

/-- Settles O55: the acceptance, the receive and the FIN row. -/
theorem receiveCommandReturnsABufferedFrame : Obligations.ReceiveCommandReturnsABufferedFrame := by
  intro s fields h0 h1 rest ⟨hr, hb, hust, hv, hcommand⟩ hc hq hahead
  have hdecode := encodedReadingDecodes fields h0 h1
  have haccept := step_of_command hr hb hv
  rw [hcommand] at haccept
  have hin := Undisturbed.of_step (k := 34) ⟨hc, hahead⟩ haccept
  have hbuffered : (encodeReading fields h0 h1).toBuf.toList ++ rest <+: s.rxq := by
    rw [hq, Frame.toList_toBuf]
  obtain ⟨t, hreceive, hin, hidle, hgot, hres, ⟨later, hrest⟩, hheld⟩ :=
    receive_of_recv (k := 0) hin rfl hust rfl (hbuffered.trans (List.prefix_append _ _))
      (encodeReading_marked fields h0 h1) (by rw [hdecode])
  rw [hdecode] at hheld
  have hfin := step_of_fin ⟨hin.noRst, congrArg Control.busy hheld, hidle⟩ (congrArg Control.upc hheld)
  have hrun : runCycles 36 s = .next _ :=
    (runCycles_succ 35 haccept).trans ((runCycles_add 1 hreceive).trans (runCycles_succ 0 hfin))
  refine ⟨_, later ++ t.nextEnv.arrivals, hrun, rfl, rfl, hres, hgot,
    congrArg (fun c => c.latched.rd) hheld, ?_, congrArg Control.lineEn hheld, congrArg Control.lineRst hheld⟩
  show t.rxq ++ t.nextEnv.arrivals = _
  rw [← hrest, List.append_assoc]

end Sys2Proof.Machine
end

section
/-! PROOFS. The family 43_controller.md, one cycle at a time: the rows RST, EN, DIS, WAIT and DRAIN and the
micro-routines they start (R131 to R139), and that an absent line is never driven (R136). -/

namespace Sys2Proof.Machine

/-! ### A row that is no branch (44_session.md R151) -/

/-- A row that is no branch labels the session, runs its micro-operation, and goes on to its successor. -/
theorem State.rowCycle_of_straight {s : State} (hstraight : (rowAt s.upc).op.target = none) :
    s.rowCycle = {
      State.microOp (rowAt s.upc).op { s with sst := (rowAt s.upc).sst.getD s.sst } with
      upc := (rowAt s.upc).next } := by
  have hnext : (rowAt s.upc).nextRow s = (rowAt s.upc).next :=
    ((rowAt s.upc).nextRow_cases s).resolve_right (by simp [hstraight])
  rw [State.rowCycle, State.labelSession_eq, hnext]

theorem step_of_straight_row {s : State} {op : MicroOp} (hrun : Running .idle s) (hop : (rowAt s.upc).op = op)
    (hstraight : op.target = none) :
    step s = .next (State.endCycle {
      State.microOp op { s.beginCycle with sst := (rowAt s.upc).sst.getD s.sst } with upc := (rowAt s.upc).next }) := by
  subst hop
  rw [step_of_cycle (.row (s := s.beginCycle) hrun), State.rowCycle_of_straight (s := s.beginCycle) hstraight]
  rfl

theorem State.microOp_of_idles {op : MicroOp} {s : State} (h : op.idles s) : s.microOp op = s := by
  generalize hv : s.microOp op = v
  have heffect : RowEffect s op v := hv ▸ State.microOp_effect op s
  cases heffect with
  | rst hpresent | en hpresent | dis hpresent | bcancel _ hpresent => exact nomatch h.symm.trans hpresent
  | fin | wait | drain | recv | report => exact h.elim
  | none => rfl

/-- A row with nothing to do only labels the session and goes on (43_controller.md R136). -/
theorem step_of_idle_row {s : State} {op : MicroOp} (hrun : Running .idle s) (hop : (rowAt s.upc).op = op)
    (hstraight : op.target = none) (hidles : op.idles s) :
    step s = .next (State.endCycle { s.beginCycle with
      sst := (rowAt s.upc).sst.getD s.sst, upc := (rowAt s.upc).next }) := by
  rw [step_of_straight_row hrun hop hstraight, State.microOp_of_idles]
  cases op <;> exact hidles

/-! ### `reset()` (43_controller.md R131 to R133) -/

theorem step_of_rst {s : State} (hrun : Running .idle s) (hop : (rowAt s.upc).op = .rst)
    (hpresent : s.par.hasRst = true) :
    step s = .next (State.endCycle { s.beginCycle with
      sst := (rowAt s.upc).sst.getD s.sst, lineRst := false, cst := .resetting, ust := .rsten
      upc := (rowAt s.upc).next }) := by
  rw [step_of_straight_row hrun hop rfl]
  simp [State.microOp, State.rstOp, State.driveRst, hpresent]

theorem State.rstenCycle_eq (s : State) :
    s.rstenCycle = { s with
      lineEn := if s.par.hasEn then true else s.lineEn, tmr := 100, pre := 0, ust := .settle } := by
  cases h : s.par.hasEn <;> simp [State.rstenCycle, State.driveEn, State.load, h]

theorem step_of_rsten {s : State} (hrun : Running .rsten s) :
    step s = .next (State.endCycle { s.beginCycle with
      lineEn := if s.par.hasEn then true else s.lineEn, tmr := 100, pre := 0, ust := .settle }) := by
  rw [step_of_cycle (.rsten (s := s.beginCycle) hrun), State.rstenCycle_eq]
  rfl

theorem step_of_settle {s : State} (hrun : Running .settle s) (hpresent : s.par.hasRst = true) :
    step s = .next (State.endCycle (
      if s.tmr = 0 then
        { s.beginCycle with lineRst := true, cst := if s.par.hasEn then .enabled else .suspended, ust := .idle }
      else s.beginCycle.tick)) := by
  rw [step_of_cycle (.settle (s := s.beginCycle) hrun)]
  obtain ⟨htmr, h⟩ | ⟨htmr, h⟩ := s.beginCycle.settleCycle_cases <;> rw [h]
  · rw [if_pos (show s.tmr = 0 from htmr), State.driveRst, if_pos (show s.beginCycle.par.hasRst = true from hpresent)]
    rfl
  · rw [if_neg (show s.tmr ≠ 0 from htmr)]

/-- Settles O30, by the table's four RST rows, each with and without the line. -/
theorem resetPulseBegins : Obligations.ResetPulseBegins := by
  refine ⟨fun s next label hrun hrow => ?_, fun s => step_of_rsten⟩
  simp only [List.mem_cons, List.not_mem_nil, or_false, Prod.mk.injEq] at hrow
  obtain ⟨hop, rfl, rfl⟩ :
      (rowAt s.upc).op = .rst ∧ (rowAt s.upc).next = next ∧ (rowAt s.upc).sst.getD s.sst = label := by
    obtain ⟨hupc, rfl, rfl⟩ | ⟨hupc, rfl, rfl⟩ | ⟨hupc, rfl, rfl⟩ | ⟨hupc, rfl, rfl⟩ := hrow <;> rw [hupc] <;>
      exact ⟨rfl, rfl, rfl⟩
  cases hpresent : s.par.hasRst
  · exact step_of_idle_row hrun hop rfl hpresent
  · exact step_of_rst hrun hop hpresent

/-! ### `enable()` and `disable()` (43_controller.md R134, R135) -/

/-- The micro-operation that drives the enable line to a level. -/
def MicroOp.drive (level : Bool) : MicroOp := if level then .en else .dis

/-- The controller state the micro-operation leaves (43_controller.md R134, R135). -/
def Cst.driven (level : Bool) : Cst := if level then .enabled else .disabled

theorem step_of_drive {s : State} {level : Bool} (hrun : Running .idle s) (hop : (rowAt s.upc).op = .drive level) :
    step s = .next (State.endCycle { s.beginCycle with
      sst := (rowAt s.upc).sst.getD s.sst
      lineEn := if s.par.hasEn then level else s.lineEn
      cst := if s.par.hasEn then .driven level else s.cst
      upc := (rowAt s.upc).next }) := by
  rw [step_of_straight_row hrun hop (by cases level <;> rfl)]
  cases level <;> cases hpresent : s.par.hasEn <;>
    simp [MicroOp.drive, Cst.driven, State.microOp, State.enOp, State.disOp, State.driveEn, hpresent]

/-- Settles O32, by the table's EN and DIS rows, each with and without the line. -/
theorem enableAndDisableRows : Obligations.EnableAndDisableRows := by
  refine ⟨fun s next hrun hrow => ?_, fun s next label hrun hrow => ?_⟩
  all_goals simp only [List.mem_cons, List.not_mem_nil, or_false, Prod.mk.injEq] at hrow
  · obtain ⟨hop, rfl, hlabel⟩ :
        (rowAt s.upc).op = .drive true ∧ (rowAt s.upc).next = next ∧ (rowAt s.upc).sst.getD s.sst = s.sst := by
      obtain ⟨hupc, rfl⟩ | ⟨hupc, rfl⟩ | ⟨hupc, rfl⟩ | ⟨hupc, rfl⟩ := hrow <;> rw [hupc] <;> exact ⟨rfl, rfl, rfl⟩
    rw [step_of_drive hrun hop, hlabel]
    cases s.par.hasEn <;> rfl
  · obtain ⟨hop, rfl, rfl⟩ :
        (rowAt s.upc).op = .drive false ∧ (rowAt s.upc).next = next ∧ (rowAt s.upc).sst.getD s.sst = label := by
      obtain ⟨hupc, rfl, rfl⟩ | ⟨hupc, rfl, rfl⟩ | ⟨hupc, rfl, rfl⟩ | ⟨hupc, rfl, rfl⟩ := hrow <;> rw [hupc] <;>
        exact ⟨rfl, rfl, rfl⟩
    rw [step_of_drive hrun hop]
    cases s.par.hasEn <;> rfl

/-! ### Waits (43_controller.md R137, R138) -/

theorem step_of_wait_row {s : State} {o : WaitOperand} (hrun : Running .idle s) (hop : (rowAt s.upc).op = .wait o) :
    step s = .next (State.endCycle { s.beginCycle with
      sst := (rowAt s.upc).sst.getD s.sst, tmr := o.value s, pre := 0, ust := .wait, upc := (rowAt s.upc).next }) := by
  rw [step_of_straight_row hrun hop rfl]
  cases o <;> rfl

/-- The sleep period does not wrap where it is formed (44_session.md R162). -/
theorem value_a1SubA0 {s : State} (h : s.a0 < s.a1) :
    WaitOperand.a1SubA0.value s = BitVec.ofNat 32 (s.a1.toNat - s.a0.toNat) := by
  show s.a1 - s.a0 = _
  bv_omega

/-- Settles O33, by the table's five WAIT rows. -/
theorem waitRowsStartAWait : Obligations.WaitRowsStartAWait := by
  intro s next label v hrun hsleep hrow
  simp only [List.mem_cons, List.not_mem_nil, or_false, Prod.mk.injEq] at hrow
  obtain ⟨o, hop, rfl, rfl, rfl⟩ : ∃ o, (rowAt s.upc).op = .wait o ∧ (rowAt s.upc).next = next ∧
      (rowAt s.upc).sst.getD s.sst = label ∧ o.value s = v := by
    obtain ⟨hupc, rfl, rfl, rfl⟩ | ⟨hupc, rfl, rfl, rfl⟩ | ⟨hupc, rfl, rfl, rfl⟩ | ⟨hupc, rfl, rfl, rfl⟩ |
      ⟨hupc, rfl, rfl, rfl⟩ := hrow <;> rw [hupc]
    · exact ⟨.a0, rfl, rfl, rfl, rfl⟩
    · exact ⟨.a0, rfl, rfl, rfl, rfl⟩
    · exact ⟨.a0, rfl, rfl, rfl, rfl⟩
    · exact ⟨.a1SubA0, rfl, rfl, rfl, value_a1SubA0 (hsleep hupc)⟩
    · exact ⟨.a1, rfl, rfl, rfl, rfl⟩
  exact step_of_wait_row hrun hop

theorem step_of_wait {s : State} (hrun : Running .wait s) :
    step s = .next (State.endCycle (
      if s.cancel then { s.beginCycle with res := .cancelled, ust := .idle }
      else if s.tmr = 0 then { s.beginCycle with ust := .idle }
      else s.beginCycle.tick)) := by
  refine step_of_quiet (.wait (s := s.beginCycle) hrun) ?_
  have hcases := s.beginCycle.waitCycle_cases
  simp only [State.beginCycle_cancel, State.beginCycle_tmr] at hcases
  obtain ⟨hc, h⟩ | ⟨hc, htmr, h⟩ | ⟨hc, htmr, h⟩ := hcases
  · rw [hc]; exact h
  · rw [hc, if_pos htmr]; exact h
  · rw [hc, if_neg htmr]; exact h

/-! ### Drains (43_controller.md R139) -/

theorem step_of_drain_row {s : State} (hrun : Running .idle s) (hop : (rowAt s.upc).op = .drain) :
    step s = .next (State.endCycle { s.beginCycle with
      sst := (rowAt s.upc).sst.getD s.sst, ust := .drain, upc := (rowAt s.upc).next }) :=
  step_of_straight_row hrun hop rfl

theorem step_of_drain {s : State} (hrun : Running .drain s) :
    step s = .next (State.endCycle (match s.ports.rxFail, s.rxq with
      | false, _ :: rest => { s.beginCycle with rxq := rest, rxPop := true }
      | _, _ => { s.beginCycle with ust := .idle })) := by
  refine step_of_quiet (.drain (s := s.beginCycle) hrun) ?_
  have hcases := s.beginCycle.drainCycle_cases
  simp only [State.beginCycle_ports, State.beginCycle_rxq] at hcases
  obtain ⟨b, rest, hf, hq, h⟩ | ⟨hf | hq, h⟩ := hcases
  · rw [hf, hq]; exact h
  · rw [hf]; exact h
  · rw [hq]; cases s.ports.rxFail <;> exact h

/-- Settles O35, by the table's three DRAIN rows and by what a cycle of U_DRAIN can do. -/
theorem drainRowsAndCycle : Obligations.DrainRowsAndCycle := by
  refine ⟨fun s next hrun hrow => ?_, fun s => step_of_drain⟩
  simp only [List.mem_cons, List.not_mem_nil, or_false, Prod.mk.injEq] at hrow
  obtain ⟨hop, rfl, hlabel⟩ :
      (rowAt s.upc).op = .drain ∧ (rowAt s.upc).next = next ∧ (rowAt s.upc).sst.getD s.sst = s.sst := by
    obtain ⟨hupc, rfl⟩ | ⟨hupc, rfl⟩ | ⟨hupc, rfl⟩ := hrow <;> rw [hupc] <;> exact ⟨rfl, rfl, rfl⟩
  rw [step_of_drain_row hrun hop, hlabel]
  rfl

/-! ### Absent lines (43_controller.md R136) -/

/-- Settles O22: the writers of each line need it present, and a row on an absent line has nothing to do. -/
theorem absentLinesAreNeverDriven : Obligations.AbsentLinesAreNeverDriven := by
  intro s t hr hstep
  refine ⟨fun habsent => ?_, fun habsent => ?_, fun hrun habsent => ?_⟩
  · obtain ⟨u, hc, rfl⟩ := step_iff_cycle.1 hstep
    exact (hc.lineRst_writers hr).resolve_right fun hwrite => nomatch habsent.symm.trans hwrite.1
  · obtain ⟨u, hc, rfl⟩ := step_iff_cycle.1 hstep
    exact (hc.lineEn_writers hr).resolve_right fun hwrite => nomatch habsent.symm.trans hwrite.1
  · refine Host.Outcome.next.inj (hstep.symm.trans ?_)
    obtain ⟨hop, habsent⟩ | ⟨hop | hop, habsent⟩ := habsent
    all_goals exact step_of_idle_row hrun hop rfl habsent

end Sys2Proof.Machine
end

section
/-! PROOFS. The family 43_controller.md, the timed routines: the ticks of U_SETTLE and U_WAIT run the timer down, and
what the reset pulse and a wait leave behind (R133, R138). -/

namespace Sys2Proof.Machine

/-! ### What a run keeps -/

theorem runCycles_succ_eq_next_iff {n : Nat} {s t : State} :
    runCycles (n + 1) s = .next t ↔ ∃ u, step s = .next u ∧ runCycles n u = .next t := by
  rw [runCycles]
  rcases step s with u | f | r <;> simp

/-- A property of the cycles left and the state that every step hands on, every run hands on. -/
theorem runCycles_keeps {I : Nat → State → Prop} (hkeep : ∀ k s t, I (k + 1) s → step s = .next t → I k t) {n k : Nat}
    {s t : State} (h : I (n + k) s) (hrun : runCycles n s = .next t) : I k t := by
  induction n generalizing s with
  | zero =>
    cases hrun
    rwa [Nat.zero_add] at h
  | succ n ih =>
    obtain ⟨u, hstep, hrun⟩ := runCycles_succ_eq_next_iff.1 hrun
    rw [Nat.add_right_comm] at h
    exact ih (hkeep _ s u h hstep) hrun

section
variable {n k : Nat} {p q : Ports → Bool} {s t : State}

theorem Ahead.tail (h : Ahead (k + 1) p s) (hstep : step s = .next t) : Ahead k p t := by
  cases k with
  | zero => exact ⟨Nat.zero_le _, rfl⟩
  | succ k => exact h.of_step hstep

theorem Ahead.of_run (h : Ahead (n + k) p s) (hrun : runCycles n s = .next t) : Ahead k p t :=
  runCycles_keeps (I := fun k s => Ahead k p s) (fun _ _ _ h => h.tail) h hrun

theorem Ahead.imp (h : Ahead k p s) (hpq : ∀ x, p x = true → q x = true) : Ahead k q s := by
  obtain ⟨hlen, hall⟩ := h
  rw [List.all_eq_true] at hall
  exact ⟨hlen, List.all_eq_true.2 fun x hx => hpq x (hall x hx)⟩

theorem Ahead.noRst (h : Ahead (k + 1) Ports.noReset s) : s.ports.rst = false := by
  simpa [Ports.noReset] using h.head

end

theorem Ports.noReset_of_noCancel (x : Ports) (h : Ports.noCancel x = true) :
    Ports.noReset x = true := by
  rw [Ports.noCancel, Bool.and_eq_true] at h
  exact h.1

/-! ### Ticking (43_controller.md R133, R138; 60_exceptions.md R195) -/

/-- For `n` cycles nothing but its timer ends the routine: U_SETTLE, or U_WAIT without a cancellation. -/
def Counts (n : Nat) (s : State) : Prop :=
  s.busy = true ∧ s.pre < s.par.nMs ∧ Ahead n Ports.noReset s ∧
    ((s.ust = .settle ∧ s.par.hasRst = true) ∨ (s.ust = .wait ∧ s.cancel = false ∧ Ahead n Ports.noCancel s))

/-- What the ticks leave alone. -/
structure Standing where
  control : Control
  res : Res
  ust : Ust

def State.standing (s : State) : Standing := ⟨s.held, s.res, s.ust⟩

theorem State.standing_eq_iff {s : State} {c : Control} {r : Res} {v : Ust} :
    s.standing = ⟨c, r, v⟩ ↔ s.held = c ∧ s.res = r ∧ s.ust = v := by
  simp [State.standing]

section
variable {n k : Nat} {s t : State}

/-- No request comes while a wait counts. -/
theorem cancel_of_noCancel (hc : s.cancel = false) (hahead : Ahead (n + 1) Ports.noCancel s)
    (hstep : step s = .next t) : t.cancel = false := by
  have hquiet := hahead.head
  simp only [Ports.noCancel, Bool.and_eq_true, Bool.not_eq_true'] at hquiet
  obtain ⟨-, hcancel, -⟩ := cancelIsSticky.1 s t hstep
  rw [hcancel hquiet.1, hc, hquiet.2]
  rfl

theorem Counts.pre_lt (h : Counts n s) : s.pre < s.par.nMs := h.2.1

theorem Counts.tmr_eq_zero_iff (h : Counts n s) : s.tmr = 0 ↔ s.ticksLeft = 0 :=
  (State.ticksLeft_eq_zero_iff h.pre_lt).symm

theorem Counts.step_eq (h : Counts (n + 1) s) (hopen : s.tmr ≠ 0) : step s = .next s.beginCycle.tick.endCycle := by
  obtain ⟨hb, -, hahead, ⟨hust, hpresent⟩ | ⟨hust, hc, -⟩⟩ := h
  · rw [step_of_settle ⟨hahead.noRst, hb, hust⟩ hpresent, if_neg hopen]
  · rw [step_of_wait ⟨hahead.noRst, hb, hust⟩, if_neg (Bool.eq_false_iff.1 hc), if_neg hopen]

theorem Counts.next (h : Counts (n + 1) s) (hopen : 1 ≤ s.ticksLeft) :
    ∃ t, step s = .next t ∧ Counts n t ∧ t.standing = s.standing ∧ t.ticksLeft = s.ticksLeft - 1 := by
  have hstep := h.step_eq fun hexpired => by
    have := h.tmr_eq_zero_iff.1 hexpired
    omega
  obtain ⟨hb, hpre, hahead, hroutine⟩ := h
  refine ⟨_, hstep, ⟨by simp [hb], by simpa using State.tick_pre_lt (s := s.beginCycle) hpre, hahead.tail hstep, ?_⟩,
    by simp [State.standing, State.held, State.control, State.latched], State.ticksLeft_tick (s := s.beginCycle) hpre⟩
  obtain ⟨hust, hpresent⟩ | ⟨hust, hc, hcalm⟩ := hroutine
  · exact .inl ⟨by simp [hust], by simp [hpresent]⟩
  · exact .inr ⟨by simp [hust], cancel_of_noCancel hc hcalm hstep, hcalm.tail hstep⟩

/-- A timed routine ticks until its timer has expired. -/
theorem Counts.run (h : Counts (n + k) s) (hle : n ≤ s.ticksLeft) :
    ∃ t, runCycles n s = .next t ∧ Counts k t ∧ t.standing = s.standing ∧ t.ticksLeft = s.ticksLeft - n := by
  induction n generalizing s with
  | zero => exact ⟨s, rfl, by rwa [Nat.zero_add] at h, rfl, rfl⟩
  | succ n ih =>
    rw [Nat.add_right_comm] at h
    obtain ⟨u, hstep, hcounts, hstanding, hleft⟩ := h.next (by omega)
    obtain ⟨t, hrun, hcounts, hstanding', hleft'⟩ := ih hcounts (by omega)
    exact ⟨t, (runCycles_succ n hstep).trans hrun, hcounts, hstanding'.trans hstanding, by omega⟩

end

theorem State.ticksLeft_of_loaded {s : State} (hpre : s.pre = 0) : s.ticksLeft = s.tmr.toNat * s.par.nMs := by
  rw [State.ticksLeft, hpre, Nat.sub_zero]

/-! ### Rows that go on (44_session.md R151) -/

/-- What a row does to the control registers beside its micro-operation: it labels the session and goes on. -/
def Control.advance (r : Row) (c : Control) : Control := { c with sst := r.sst.getD c.sst, upc := r.next }

theorem standing_of_idle_row {s : State} {op : MicroOp} (hrun : Running .idle s) (hop : (rowAt s.upc).op = op)
    (hstraight : op.target = none) (hidles : op.idles s) :
    ∃ t, step s = .next t ∧ t.standing = ⟨s.held.advance (rowAt s.upc), s.res, .idle⟩ :=
  ⟨_, step_of_idle_row hrun hop hstraight hidles, State.standing_eq_iff.2 ⟨rfl, rfl, hrun.ust⟩⟩

theorem standing_of_wait_row {s : State} {o : WaitOperand} (hrun : Running .idle s) (hop : (rowAt s.upc).op = .wait o) :
    ∃ t, step s = .next t ∧ t.tmr = o.value s ∧ t.pre = 0 ∧
      t.standing = ⟨s.held.advance (rowAt s.upc), s.res, .wait⟩ :=
  ⟨_, step_of_wait_row hrun hop, rfl, rfl, rfl⟩

theorem standing_of_drain_row {s : State} (hrun : Running .idle s) (hop : (rowAt s.upc).op = .drain) :
    ∃ t, step s = .next t ∧ t.standing = ⟨s.held.advance (rowAt s.upc), s.res, .drain⟩ :=
  ⟨_, step_of_drain_row hrun hop, rfl⟩

/-! ### Waits (43_controller.md R138) -/

theorem Counts.of_wait {n : Nat} {s : State} (hb : s.busy = true) (hust : s.ust = .wait) (hpre : s.pre = 0)
    (hc : s.cancel = false) (hahead : Ahead n Ports.noCancel s) : Counts n s :=
  ⟨hb, hpre ▸ Params.nMs_pos s.par, hahead.imp Ports.noReset_of_noCancel, .inr ⟨hust, hc, hahead⟩⟩

/-- The cycle of U_WAIT that finds the timer expired. -/
theorem Counts.wait_ends {s : State} (h : Counts 1 s) (hust : s.ust = .wait) (hexpired : s.tmr = 0) :
    ∃ t, step s = .next t ∧ t.standing = ⟨s.held, s.res, .idle⟩ := by
  obtain ⟨hb, -, hahead, ⟨hsettle, -⟩ | ⟨-, hc, -⟩⟩ := h
  · exact nomatch hust.symm.trans hsettle
  · have hstep := step_of_wait ⟨hahead.noRst, hb, hust⟩
    rw [if_neg (Bool.eq_false_iff.1 hc), if_pos hexpired] at hstep
    exact ⟨_, hstep, rfl⟩

/-- A wait that nothing cuts short. -/
theorem Counts.wait_run {s : State} (h : Counts (s.ticksLeft + 1) s) (hust : s.ust = .wait) :
    ∃ t, runCycles (s.ticksLeft + 1) s = .next t ∧ t.standing = ⟨s.held, s.res, .idle⟩ := by
  obtain ⟨u, hrun, hcounts, hstanding, hleft⟩ := h.run le_rfl
  obtain ⟨hheld, hres, hust'⟩ := State.standing_eq_iff.1 hstanding
  obtain ⟨t, hstep, hstanding⟩ :=
    hcounts.wait_ends (hust'.trans hust) (hcounts.tmr_eq_zero_iff.2 (hleft.trans (Nat.sub_self _)))
  exact ⟨t, (runCycles_add 1 hrun).trans (runCycles_succ 0 hstep), by rw [hstanding, hheld, hres]⟩

/-- Settles O34: the ticks left count down from v ms, and the cycle after the last ends the wait. -/
theorem waitTakesItsTime : Obligations.WaitTakesItsTime := by
  refine ⟨fun s => step_of_wait, fun s ⟨_, hb, hust⟩ hpre hc hahead => ?_⟩
  have hleft := State.ticksLeft_of_loaded hpre
  rw [← hleft] at hahead ⊢
  have hcounts := Counts.of_wait hb hust hpre hc hahead
  refine ⟨fun k hk => ?_, ?_⟩
  · obtain ⟨m, hm⟩ := Nat.exists_eq_add_of_le hk
    rw [hm, Nat.add_assoc] at hcounts
    obtain ⟨t, hrun, hcounts, hstanding, hleft⟩ := hcounts.run hk
    exact ⟨t, hrun, (congrArg Standing.ust hstanding).trans hust, by rw [hcounts.tmr_eq_zero_iff]; omega⟩
  · obtain ⟨t, hrun, hstanding⟩ := hcounts.wait_run hust
    exact ⟨t, hrun, congrArg Standing.ust hstanding, congrArg (·.control.upc) hstanding,
      congrArg Standing.res hstanding⟩

/-! ### The reset pulse (43_controller.md R131 to R133) -/

/-- The control registers during the reset pulse, from its second cycle on. -/
def Control.pulse (c : Control) : Control :=
  { c with lineRst := false, cst := .resetting, lineEn := if c.latched.par.hasEn then true else c.lineEn }

/-- The control registers after the reset pulse. -/
def Control.afterPulse (c : Control) : Control :=
  { c.pulse with lineRst := true, cst := if c.latched.par.hasEn then .enabled else .suspended }

section
variable {k n : Nat} {s : State} (hrun : Running .idle s) (hop : (rowAt s.upc).op = .rst)
  (hpresent : s.par.hasRst = true)
include hrun hop hpresent

theorem standing_of_rst :
    ∃ t, step s = .next t ∧
      t.standing = ⟨{ s.held.advance (rowAt s.upc) with lineRst := false, cst := .resetting }, s.res, .rsten⟩ :=
  ⟨_, step_of_rst hrun hop hpresent, rfl⟩

/-- The RST row and U_RSTEN, which leave the full delay to U_SETTLE. -/
theorem resetPulse_begins (hahead : Ahead (k + 2) Ports.noReset s) :
    ∃ u t, step s = .next u ∧ u.lineRst = false ∧ u.cst = .resetting ∧ step u = .next t ∧ Counts k t ∧
      t.standing = ⟨(s.held.advance (rowAt s.upc)).pulse, s.res, .settle⟩ ∧ t.ticksLeft = 100 * s.par.nMs := by
  obtain ⟨u, hrst, hstanding⟩ := standing_of_rst hrun hop hpresent
  obtain ⟨hheld, hres, hust⟩ := State.standing_eq_iff.1 hstanding
  have hb : u.busy = true := (congrArg Control.busy hheld).trans hrun.busy
  have hpar : u.par = s.par := congrArg (·.latched.par) hheld
  have hahead := hahead.tail hrst
  have hrsten := step_of_rsten ⟨hahead.noRst, hb, hust⟩
  refine ⟨u, _, hrst, congrArg Control.lineRst hheld, congrArg Control.cst hheld, hrsten,
    ⟨hb, Params.nMs_pos u.par, hahead.tail hrsten, .inl ⟨rfl, by simp [hpar, hpresent]⟩⟩,
    State.standing_eq_iff.2 ⟨?_, hres, rfl⟩, congrArg (100 * ·.nMs) hpar⟩
  exact congrArg (fun c : Control => { c with lineEn := if c.latched.par.hasEn then true else c.lineEn }) hheld

theorem resetPulse_holds (hahead : Ahead (n + k + 2) Ports.noReset s) (hle : n ≤ 100 * s.par.nMs) :
    ∃ t, runCycles (n + 2) s = .next t ∧ Counts k t ∧
      t.standing = ⟨(s.held.advance (rowAt s.upc)).pulse, s.res, .settle⟩ ∧ t.ticksLeft = 100 * s.par.nMs - n := by
  obtain ⟨u, v, hrst, -, -, hrsten, hcounts, hstanding, hleft⟩ := resetPulse_begins hrun hop hpresent hahead
  obtain ⟨t, hticks, hcounts, hstanding', hleft'⟩ := hcounts.run (hle.trans_eq hleft.symm)
  exact ⟨t, (runCycles_succ _ hrst).trans ((runCycles_succ n hrsten).trans hticks), hcounts, hstanding'.trans hstanding,
    by rw [hleft', hleft]⟩

/-- The whole of the pulse, and the cycle that ends it. -/
theorem resetPulse_run (hahead : Ahead (100 * s.par.nMs + 3) Ports.noReset s) :
    ∃ t, runCycles (100 * s.par.nMs + 3) s = .next t ∧
      t.standing = ⟨(s.held.advance (rowAt s.upc)).afterPulse, s.res, .idle⟩ := by
  obtain ⟨u, hticks, hcounts, hstanding, hleft⟩ := resetPulse_holds (k := 1) hrun hop hpresent hahead le_rfl
  obtain ⟨hheld, hres, hust⟩ := State.standing_eq_iff.1 hstanding
  have hpar : u.par = s.par := congrArg (·.latched.par) hheld
  have hexpired : u.tmr = 0 := hcounts.tmr_eq_zero_iff.2 (hleft.trans (Nat.sub_self _))
  obtain ⟨hb, -, hahead, -⟩ := hcounts
  have hstep := step_of_settle ⟨hahead.noRst, hb, hust⟩ (by rw [hpar, hpresent])
  rw [if_pos hexpired, hpar] at hstep
  refine ⟨_, (runCycles_add 1 hticks).trans (runCycles_succ 0 hstep), ?_⟩
  exact State.standing_eq_iff.2 ⟨congrArg (fun c : Control =>
    { c with lineRst := true, cst := if s.par.hasEn then .enabled else .suspended }) hheld, hres, rfl⟩

end

/-- Settles O31: the RST row and U_RSTEN, the ticks of U_SETTLE, and the cycle that finds the timer expired. -/
theorem resetPulseHasItsLength : Obligations.ResetPulseHasItsLength := by
  refine ⟨fun s => step_of_settle, fun s hrun hop hpresent hahead => ⟨fun k hlow hhigh => ?_, ?_⟩⟩
  · match k with
    | 1 =>
      obtain ⟨u, -, hrst, hline, hcst, -⟩ :=
        resetPulse_begins (k := 0) hrun hop hpresent (hahead.mono (by omega))
      exact ⟨u, runCycles_succ 0 hrst, hline, hcst, by omega⟩
    | n + 2 =>
      obtain ⟨t, hticks, -, hstanding, -⟩ :=
        resetPulse_holds (n := n) (k := 0) hrun hop hpresent (hahead.mono (by omega)) (by omega)
      refine ⟨t, hticks, congrArg (·.control.lineRst) hstanding, congrArg (·.control.cst) hstanding, fun _ hen => ?_⟩
      exact (congrArg (·.control.lineEn) hstanding).trans (if_pos hen)
  · obtain ⟨t, hpulse, hstanding⟩ := resetPulse_run hrun hop hpresent hahead
    exact ⟨t, hpulse, congrArg (·.control.lineRst) hstanding, congrArg Standing.ust hstanding,
      congrArg (·.control.cst) hstanding⟩

end Sys2Proof.Machine
end

section
/-! PROOFS. The family 43_controller.md, its commands run to their end: ENABLE, DISABLE, RESET and WARMUP (R141 to
R144). -/

namespace Sys2Proof.Machine

/-! ### The first and the last cycle of a command (30_encoding.md R92, 44_session.md R152) -/

/-- What taking a command does to the control registers. -/
def Control.take (op : BitVec 4) (arg0 arg1 : Word) (c : Control) : Control :=
  { c with
    busy := true, upc := entryRow op, sst := if op = 6 ∨ op = 7 then .init else c.sst
    latched := { c.latched with opL := op, a0 := arg0, a1 := arg1 } }

theorem step_of_offered {op : BitVec 4} {s : State} (h : Offered op s) :
    ∃ t, step s = .next t ∧
      t.standing = ⟨s.held.take op s.ports.cmdArg0 s.ports.cmdArg1, entryCode op, .idle⟩ := by
  obtain ⟨hr, hb, hust, hv, rfl⟩ := h
  exact ⟨_, step_of_command hr hb hv, State.standing_eq_iff.2 ⟨rfl, rfl, hust⟩⟩

theorem fin_of_standing {s : State} {c : Control} {code : Res} (hstanding : s.standing = ⟨c, code, .idle⟩)
    (hb : c.busy = true) (hupc : c.upc = 0) (hr : s.ports.rst = false) :
    ∃ t, step s = .next t ∧ t.doneStb = true ∧ t.standing = ⟨{ c with busy := false, upc := 0 }, code, .idle⟩ := by
  obtain ⟨rfl, rfl, hust⟩ := State.standing_eq_iff.1 hstanding
  exact ⟨_, step_of_fin ⟨hr, hb, hust⟩ hupc, rfl, State.standing_eq_iff.2 ⟨rfl, rfl, hust⟩⟩

/-! ### ENABLE and DISABLE (43_controller.md R142, R143) -/

/-- Each begins with OK at the one row that drives the line. -/
theorem entry_of_drive : ∀ level : Bool,
    entryCode (if level then 2 else 3) = .ok ∧
    (rowAt (entryRow (if level then 2 else 3))).op = .drive level ∧
    (rowAt (entryRow (if level then 2 else 3))).next = 0 := by decide

/-- Settles O51: the acceptance, the row that drives the line, and the FIN row. -/
theorem enableAndDisableRunToTheirEnd : Obligations.EnableAndDisableRunToTheirEnd := by
  intro s level ⟨hr, hb, hust, hv, hcommand⟩ hahead
  obtain ⟨hcode, hop, hnext⟩ := entry_of_drive level
  have haccept := step_of_command hr hb hv
  rw [hcommand] at haccept
  have hahead := hahead.tail haccept
  have hdrive := step_of_drive ⟨hahead.noRst, rfl, hust⟩ hop
  have hahead := hahead.tail hdrive
  have hfin := step_of_fin ⟨hahead.noRst, rfl, hust⟩ hnext
  have hrun : runCycles 2 s = .next _ := (runCycles_succ 1 haccept).trans (runCycles_succ 0 hdrive)
  refine ⟨⟨_, hrun, rfl, rfl, rfl, rfl⟩, _, (runCycles_add 1 hrun).trans (runCycles_succ 0 hfin), rfl, rfl, hcode, rfl,
    rfl, rfl, rfl, ?_, rfl⟩
  cases level <;> rfl

/-! ### RESET (43_controller.md R141) -/

/-- Settles O53: the acceptance, the reset pulse or the row without a line, and the FIN row. -/
theorem resetCommandRunsToItsEnd : Obligations.ResetCommandRunsToItsEnd := by
  intro s hoffered
  obtain ⟨u, haccept, hstanding⟩ := step_of_offered hoffered
  obtain ⟨hheld, hres, hust⟩ := State.standing_eq_iff.1 hstanding
  have hb : u.busy = true := congrArg Control.busy hheld
  have hupc : u.upc = 1 := congrArg Control.upc hheld
  have hpar : u.par = s.par := congrArg (·.latched.par) hheld
  have hop : (rowAt u.upc).op = .rst := by rw [hupc]; rfl
  rw [← hpar]
  refine ⟨fun hpresent hahead => ?_, fun habsent hahead => ?_⟩
  · have hahead : Ahead (100 * u.par.nMs + 3 + 1) Ports.noReset u := hahead.tail haccept
    obtain ⟨v, hpulse, hstanding⟩ := resetPulse_run ⟨hahead.noRst, hb, hust⟩ hop hpresent (hahead.mono (Nat.le_succ _))
    rw [hheld, hupc, hres] at hstanding
    obtain ⟨t, hfin, hdone, hstanding⟩ := fin_of_standing hstanding rfl rfl (hahead.of_run hpulse).noRst
    exact ⟨t, (runCycles_succ _ haccept).trans ((runCycles_add 1 hpulse).trans (runCycles_succ 0 hfin)),
      congrArg (·.control.busy) hstanding, hdone, congrArg Standing.res hstanding,
      congrArg (·.control.lineRst) hstanding, hpar ▸ congrArg (·.control.lineEn) hstanding,
      hpar ▸ congrArg (·.control.cst) hstanding, congrArg (·.control.latched.rd) hstanding⟩
  · have hahead := hahead.tail haccept
    obtain ⟨v, hrow, hstanding⟩ := standing_of_idle_row ⟨hahead.noRst, hb, hust⟩ hop rfl habsent
    rw [hheld, hupc, hres] at hstanding
    obtain ⟨t, hfin, hdone, hstanding⟩ := fin_of_standing hstanding rfl rfl (hahead.tail hrow).noRst
    exact ⟨t, (runCycles_succ 2 haccept).trans ((runCycles_succ 1 hrow).trans (runCycles_succ 0 hfin)),
      congrArg (·.control.busy) hstanding, hdone, congrArg Standing.res hstanding,
      congrArg (·.control.lineRst) hstanding, congrArg (·.control.lineEn) hstanding,
      congrArg (·.control.cst) hstanding, congrArg (·.control.latched.rd) hstanding⟩

/-! ### A silent stream, and a cancellation flag that stands -/

/-- No byte is held, and none arrives in the `k` cycles after the coming one. -/
def Silent (k : Nat) (s : State) : Prop := s.rxq = [] ∧ NoArrivals k s ∧ k ≤ s.upcoming.length

section
variable {n k : Nat} {s t : State}

theorem Silent.of_ahead {p : Ports → Bool} (hq : s.rxq = []) (hahead : Ahead (k + 1) p s) (hsilent : NoArrivals k s) :
    Silent k s :=
  ⟨hq, hsilent, by simpa [State.portsAhead] using hahead.1⟩

theorem Silent.tail (h : Silent (k + 1) s) (hstep : step s = .next t) : Silent k t := by
  obtain ⟨hq, hsilent, hlen⟩ := h
  have hlisted : s.upcoming ≠ [] := List.ne_nil_of_length_pos (by omega)
  obtain ⟨hpop, hkeep⟩ := bytesLeaveTheStreamOnlyByPops s t hstep
  obtain ⟨u, hc, rfl⟩ := step_iff_cycle.1 hstep
  have hupcoming : u.upcoming = s.upcoming := hc.upcoming
  refine ⟨?_, hsilent.endCycle hupcoming, by rw [State.endCycle_upcoming, hupcoming, List.length_tail]; omega⟩
  rw [hkeep, hq, hsilent.head hlisted, List.append_nil]
  refine Bool.eq_false_iff.2 fun hpopped => ?_
  obtain ⟨-, -, -, -, b, rest, hhead, -⟩ := hpop hpopped
  exact nomatch hq.symm.trans hhead

theorem Silent.of_run (h : Silent (n + k) s) (hrun : runCycles n s = .next t) : Silent k t :=
  runCycles_keeps (I := Silent) (fun _ _ _ h => h.tail) h hrun

/-- Without a reset a set flag stays (10_state.md R28). -/
theorem cancel_stands (hc : s.cancel = true) (hahead : Ahead (n + 1) Ports.noReset s) (hstep : step s = .next t) :
    t.cancel = true := by
  obtain ⟨-, hcancel, -⟩ := cancelIsSticky.1 s t hstep
  rw [hcancel hahead.noRst, hc]
  rfl

end

/-! ### A drain that finds no byte (43_controller.md R139) -/

theorem step_of_drain_empty {s : State} (hrun : Running .drain s) (hq : s.rxq = []) :
    step s = .next (State.endCycle { s.beginCycle with ust := .idle }) := by
  rw [step_of_drain hrun, hq]
  cases s.ports.rxFail <;> rfl

theorem drain_of_silence {k : Nat} {s : State} (hrun : Running .idle s) (hop : (rowAt s.upc).op = .drain)
    (hahead : Ahead 2 Ports.noReset s) (hsilent : Silent (k + 1) s) :
    ∃ t, runCycles 2 s = .next t ∧ t.standing = ⟨s.held.advance (rowAt s.upc), s.res, .idle⟩ := by
  obtain ⟨u, hrow, hstanding⟩ := standing_of_drain_row hrun hop
  obtain ⟨hheld, hres, hust⟩ := State.standing_eq_iff.1 hstanding
  have hb : u.busy = true := (congrArg Control.busy hheld).trans hrun.busy
  have hdrain := step_of_drain_empty ⟨(hahead.tail hrow).noRst, hb, hust⟩ (hsilent.tail hrow).1
  exact ⟨_, (runCycles_succ 1 hrow).trans (runCycles_succ 0 hdrain), State.standing_eq_iff.2 ⟨hheld, hres, rfl⟩⟩

/-! ### WARMUP (43_controller.md R144) -/

/-- The control registers of a WARMUP that has executed its WAIT row. -/
def Control.warmUp (arg0 arg1 : Word) (c : Control) : Control := (c.take 4 arg0 arg1).advance (rowAt 4)

section
variable {s : State}

theorem warmup_begins {k : Nat} (hoffered : Offered 4 s) (hahead : Ahead (k + 2) Ports.noReset s) :
    ∃ u t, step s = .next u ∧ step u = .next t ∧ t.tmr = s.ports.cmdArg0 ∧ t.pre = 0 ∧
      t.standing = ⟨s.held.warmUp s.ports.cmdArg0 s.ports.cmdArg1, .ok, .wait⟩ := by
  obtain ⟨u, haccept, hstanding⟩ := step_of_offered hoffered
  obtain ⟨hheld, hres, hust⟩ := State.standing_eq_iff.1 hstanding
  have hupc : u.upc = 4 := congrArg Control.upc hheld
  have hop : (rowAt u.upc).op = .wait .a0 := by rw [hupc]; rfl
  obtain ⟨t, hrow, htmr, hpre, hstanding⟩ :=
    standing_of_wait_row ⟨(hahead.tail haccept).noRst, congrArg Control.busy hheld, hust⟩ hop
  rw [hheld, hupc, hres] at hstanding
  exact ⟨u, t, haccept, hrow, htmr.trans (congrArg (·.latched.a0) hheld), hpre, hstanding⟩

/-- The DRAIN row, U_DRAIN and the FIN row of a WARMUP whose wait has ended with the result `code`. -/
theorem warmup_ends {m : Nat} {arg0 arg1 : Word} {code : Res} {u : State} (hahead : Ahead (m + 3) Ports.noReset s)
    (hsilent : Silent (m + 2) s) (hrun : runCycles m s = .next u)
    (hstanding : u.standing = ⟨s.held.warmUp arg0 arg1, code, .idle⟩) :
    ∃ t, runCycles (m + 3) s = .next t ∧ t.busy = false ∧ t.doneStb = true ∧ t.res = code ∧ t.rd = s.rd ∧
      t.lineEn = s.lineEn ∧ t.lineRst = s.lineRst := by
  obtain ⟨hheld, hres, hust⟩ := State.standing_eq_iff.1 hstanding
  have hupc : u.upc = 5 := congrArg Control.upc hheld
  have hop : (rowAt u.upc).op = .drain := by rw [hupc]; rfl
  have hahead := hahead.of_run hrun
  obtain ⟨v, hdrain, hstanding⟩ := drain_of_silence ⟨hahead.noRst, congrArg Control.busy hheld, hust⟩ hop
    (hahead.mono (by decide)) (hsilent.of_run hrun)
  rw [hheld, hupc, hres] at hstanding
  obtain ⟨t, hfin, hdone, hstanding⟩ :=
    fin_of_standing hstanding rfl rfl (hahead.of_run (n := 2) (k := 1) hdrain).noRst
  exact ⟨t, (runCycles_add 3 hrun).trans ((runCycles_add 1 hdrain).trans (runCycles_succ 0 hfin)),
    congrArg (·.control.busy) hstanding, hdone, congrArg Standing.res hstanding,
    congrArg (·.control.latched.rd) hstanding, congrArg (·.control.lineEn) hstanding,
    congrArg (·.control.lineRst) hstanding⟩

end

/-- Settles O54: the acceptance and the WAIT row, the wait in full or cut short, and the drain of an empty stream. -/
theorem warmupCommandRunsToItsEnd : Obligations.WarmupCommandRunsToItsEnd := by
  refine fun s hoffered hq => ⟨fun hc hahead hsilent => ?_, fun hc hahead hsilent => ?_⟩
  · have hnoRst := hahead.imp Ports.noReset_of_noCancel
    obtain ⟨u, v, haccept, hrow, htmr, hpre, hstanding⟩ := warmup_begins hoffered (hnoRst.mono (Nat.le_add_left 2 _))
    obtain ⟨hheld, hres, hust⟩ := State.standing_eq_iff.1 hstanding
    have hleft : v.ticksLeft = s.ports.cmdArg0.toNat * s.par.nMs := by
      rw [State.ticksLeft_of_loaded hpre, htmr, show v.par = s.par from congrArg (·.latched.par) hheld]
    rw [← hleft] at hahead hnoRst hsilent ⊢
    have hclear : v.cancel = false :=
      cancel_of_noCancel (cancel_of_noCancel hc hahead haccept) (hahead.tail haccept) hrow
    have hcounts : Counts (v.ticksLeft + 1) v :=
      .of_wait (congrArg Control.busy hheld) hust hpre hclear (((hahead.tail haccept).tail hrow).mono (by omega))
    obtain ⟨w, hwait, hstanding⟩ := hcounts.wait_run hust
    rw [hheld, hres] at hstanding
    exact warmup_ends hnoRst (.of_ahead hq hahead hsilent)
      ((runCycles_succ _ haccept).trans ((runCycles_succ _ hrow).trans hwait)) hstanding
  · obtain ⟨u, v, haccept, hrow, -, -, hstanding⟩ := warmup_begins hoffered (k := 4) hahead
    obtain ⟨hheld, -, hust⟩ := State.standing_eq_iff.1 hstanding
    have hset : v.cancel = true := cancel_stands (cancel_stands hc hahead haccept) (hahead.tail haccept) hrow
    have hwait := step_of_wait ⟨((hahead.tail haccept).tail hrow).noRst, congrArg Control.busy hheld, hust⟩
    rw [if_pos hset] at hwait
    exact warmup_ends (m := 3) hahead (.of_ahead hq hahead hsilent)
      ((runCycles_succ _ haccept).trans ((runCycles_succ _ hrow).trans (runCycles_succ 0 hwait)))
      (State.standing_eq_iff.2 ⟨hheld, rfl, rfl⟩)

end Sys2Proof.Machine
end

section
/-! PROOFS. The family 44_session.md, what every step keeps: a running session is in its own rows until its finalizer
row has run, so that it completes DONE and disabled (R151, R163). -/

namespace Sys2Proof.Machine

/-! ### The rows of a session (44_session.md R151) -/

/-- ONESHOT and MONITOR, the session commands (30_encoding.md R90). -/
abbrev IsSession (op : BitVec 4) : Prop := op = 6 ∨ op = 7

/-- Row `n` is one of the rows of session `op`: 7 to 15 for ONESHOT, 16 and above for MONITOR. -/
abbrev SessionRow (op : BitVec 4) (n : RowNum) : Prop := (op = 6 ∧ 7 ≤ n.val ∧ n.val ≤ 15) ∨ (op = 7 ∧ 16 ≤ n.val)

/-- The finalizer row of a session: it disables the sensor, labels the session DONE and goes to FIN
(44_session.md R163). -/
def Row.finalizer : Row := ⟨some .done, .dis, 0⟩

/-- A session begins in its own rows (30_encoding.md R92). -/
theorem sessionRow_entryRow : ∀ op : BitVec 4, IsSession op → SessionRow op (entryRow op) := by decide

/-- FIN is no row of a session. -/
theorem not_sessionRow_zero (op : BitVec 4) : ¬SessionRow op 0 := by simp

/-- From a row of a session the branches stay in its rows, and so does every successor but the finalizer's. -/
theorem sessionRow_leaves {op : BitVec 4} {n : RowNum} (h : SessionRow op n) :
    (∀ target, (rowAt n).op.target = some target → SessionRow op target) ∧
    (SessionRow op (rowAt n).next ∨ rowAt n = .finalizer) := by
  have table : ∀ op ∈ [(6 : BitVec 4), 7], ∀ n, SessionRow op n →
      (∀ target, (rowAt n).op.target = some target → SessionRow op target) ∧
      (SessionRow op (rowAt n).next ∨ rowAt n = .finalizer) := by decide
  exact table op (by obtain ⟨rfl, -⟩ | ⟨rfl, -⟩ := h <;> decide) n h

theorem sessionRow_nextRow {s : State} (h : SessionRow s.opL s.upc) :
    SessionRow s.opL ((rowAt s.upc).nextRow s) ∨ rowAt s.upc = .finalizer := by
  obtain ⟨htarget, hsuccessor⟩ := sessionRow_leaves h
  obtain hnext | hnext := (rowAt s.upc).nextRow_cases s
  · rwa [hnext]
  · exact .inl (htarget _ hnext)

/-! ### The invariant (44_session.md R163) -/

theorem State.finalized_iff (s : State) :
    s.finalized = true ↔
      s.sst = .done ∧ s.ust = .idle ∧ (s.par.hasEn = true → s.lineEn = false ∧ s.cst = .disabled) := by
  cases h : s.par.hasEn <;> simp [State.finalized, h, and_assoc]

theorem finalizerInv_iff (s : State) :
    FinalizerInv s ↔
      (s.busy = true → IsSession s.opL → SessionRow s.opL s.upc ∨ (s.upc = 0 ∧ s.finalized = true)) := by
  constructor
  · rintro ⟨hone, hmon⟩ hb (hop | hop)
    · exact (hone hb hop).imp_left fun h => .inl ⟨hop, h⟩
    · exact (hmon hb hop).imp_left fun h => .inr ⟨hop, h⟩
  · intro h
    exact ⟨fun hb hop => by simpa [SessionRow, hop] using h hb (.inl hop),
      fun hb hop => by simpa [SessionRow, hop] using h hb (.inr hop)⟩

/-- A micro-routine runs within the session's rows. -/
theorem FinalizerInv.sessionRow_of_routine {s : State} (h : FinalizerInv s) (hb : s.busy = true) (hust : s.ust ≠ .idle)
    (hop : IsSession s.opL) : SessionRow s.opL s.upc := by
  refine ((finalizerInv_iff s).1 h hb hop).resolve_right fun ⟨_, hfinalized⟩ => ?_
  obtain ⟨-, hidle, -⟩ := s.finalized_iff.1 hfinalized
  exact hust hidle

/-- A cycle of a micro-routine stays in the session's rows, since it moves neither `op_l` nor `upc`. -/
theorem FinalizerInv.of_routine {s u : State} (h : FinalizerInv s) (hb : s.busy = true) (hust : s.ust ≠ .idle)
    (hopL : u.opL = s.opL) (hupc : u.upc = s.upc) : FinalizerInv u := by
  rw [finalizerInv_iff, hopL, hupc]
  exact fun _ hop => .inl (h.sessionRow_of_routine hb hust hop)

/-- The finalizer row finalizes the session. -/
theorem State.rowCycle_of_finalizer {s : State} (hust : s.ust = .idle) (hrow : rowAt s.upc = .finalizer) :
    s.rowCycle.upc = 0 ∧ s.rowCycle.finalized = true := by
  have hcycle : s.rowCycle = { (State.disOp { s with sst := .done }) with upc := 0 } := by
    rw [State.rowCycle, hrow]
    rfl
  refine ⟨by rw [hcycle], ?_⟩
  rw [State.finalized_iff, hcycle]
  cases hen : s.par.hasEn <;> simp [State.disOp, State.driveEn, hen, hust]

theorem FinalizerInv.row {s : State} (h : FinalizerInv s) (hrun : Running .idle s) : FinalizerInv s.rowCycle := by
  obtain ⟨-, -, -, hopL, -⟩ := State.latched_eq_iff.1 s.rowCycle_latched
  rw [finalizerInv_iff, hopL]
  intro hb' hop
  obtain hrow | ⟨hupc, -⟩ := (finalizerInv_iff s).1 h hrun.busy hop
  · exact (sessionRow_nextRow hrow).imp_right (State.rowCycle_of_finalizer hrun.ust)
  · rw [State.rowCycle_of_fin hupc] at hb'
    exact nomatch hb'

theorem FinalizerInv.quiet {s u : State} (h : FinalizerInv s) (hq : QuietCycle s u) : FinalizerInv u := by
  obtain ⟨hlatched, -, hupc, -⟩ := State.control_eq_iff.1 hq.control
  obtain ⟨-, -, -, hopL, -⟩ := State.latched_eq_iff.1 hlatched
  have table : ∀ move ∈ quietMoves, move.1 ≠ .idle := by decide
  exact h.of_routine hq.busy (table _ hq.move) hopL hupc

theorem FinalizerInv.cycle {s u : State} (h : FinalizerInv s) (hc : Cycle s u) : FinalizerInv u := by
  cases hc with
  | reset => simp [finalizerInv_iff]
  | idle => exact h
  | accept => exact (finalizerInv_iff _).2 fun _ hop => .inl (sessionRow_entryRow _ hop)
  | row hrun => exact h.row hrun
  | rsten hrun => exact h.of_routine hrun.busy (by simp [hrun.ust]) (by simp) (by simp)
  | settle hrun =>
    obtain ⟨-, -, -, hopL, -⟩ := State.latched_eq_iff.1 s.settleCycle_latched
    refine h.of_routine hrun.busy (by simp [hrun.ust]) hopL ?_
    obtain ⟨-, heq⟩ | ⟨-, heq⟩ := s.settleCycle_cases <;> simp [heq]
  | load hrun => exact h.of_routine hrun.busy (by simp [hrun.ust]) rfl rfl
  | quiet hq => exact h.quiet hq

/-- Settles O48, by the rule of the cycle: only a row moves `upc`, and a session's rows are left by its finalizer
alone. -/
theorem everyExitRunsTheFinalizer : Obligations.EveryExitRunsTheFinalizer :=
  step_keeps (fun _ h => h) (fun _ h => h) fun _ _ h hc => h.cycle hc

/-- Settles O50: `done_stb` comes in the FIN row, which is no row of a session, so the session is finalized. -/
theorem sessionsEndDisabled : Obligations.SessionsEndDisabled := by
  intro s t hinv hstep hdone hop
  obtain ⟨hdone_iff, -⟩ := strobesNameTheirRules s t hstep
  obtain ⟨hrun, hupc⟩ := hdone_iff.1 hdone
  rw [step_of_fin hrun hupc] at hstep
  cases hstep
  have hsession := (finalizerInv_iff s).1 hinv hrun.busy hop
  rw [hupc] at hsession
  obtain ⟨-, hfinalized⟩ := hsession.resolve_left (not_sessionRow_zero s.opL)
  obtain ⟨hsst, -, hen⟩ := s.finalized_iff.1 hfinalized
  exact ⟨hsst, hen⟩

end Sys2Proof.Machine
end

section
/-! PROOFS. The family 44_session.md, one cycle at a time: a step runs the decoded instruction (R150), and the rows FIN,
REPORT and NOP and the branch rows (R152 to R154). -/

namespace Sys2Proof.Machine

/-! ### A step that runs an instruction (44_session.md R150) -/

/-- The end of a cycle without `rst` whose rule left the inputs alone. -/
theorem State.endCycle_eq {s u : State} (hr : s.ports.rst = false) (hports : u.ports = s.ports)
    (hupcoming : u.upcoming = s.upcoming) (hcycle : u.cycle = s.cycle) :
    u.endCycle = { u with
      cancel := u.cancel || s.ports.cancelReq, ports := s.nextEnv.ports, rxq := u.rxq ++ s.nextEnv.arrivals
      upcoming := s.upcoming.tail, cycle := s.cycle + 1 } := by
  have henv : u.latchCancel.nextEnv = s.nextEnv := State.nextEnv_congr hupcoming hcycle
  rw [State.endCycle, State.nextInputs, henv]
  simp [State.latchCancel, hports, hr, hupcoming, hcycle]

/-- No rule writes the cycle counter. -/
theorem Cycle.cycleCount {s u : State} (h : Cycle s u) : u.cycle = s.cycle := by
  obtain hstream | ⟨-, -, -, -, _, _, -, hstream⟩ := h.stream_cases
  · exact congrArg StreamSide.cycle hstream
  · exact congrArg StreamSide.cycle hstream

theorem step_of_instr {s : State} {i : Instr} (hrule : s.rule = .instr i) : step s = finish (exec i s.beginCycle) := by
  rw [step, hrule, fire]

/-- A command at the port of an idle block, or a candidate in its U_CHECK cycle, is the instruction of the cycle. -/
theorem rule_of_decoded {s : State} {i : Instr} (hr : s.ports.rst = false)
    (h : (s.busy = false ∧ s.ports.cmdValid = true ∧
        decode (commandBytes s.ports.cmdOp s.ports.cmdArg0 s.ports.cmdArg1) = .ok i) ∨
      (s.busy = true ∧ s.ust = .check ∧ decode s.buf.toList = .ok i)) : s.rule = .instr i := by
  obtain ⟨hb, hv, hdecode⟩ | ⟨hb, hust, hdecode⟩ := h
  · rw [decode_commandBytes] at hdecode
    cases hdecode
    exact s.rule_of_command hr hb hv
  · rw [decode_toList] at hdecode
    by_cases hmarked : Marked s.buf
    · rw [decodeFrame_of_marked hmarked] at hdecode
      cases hdecode
      exact (s.rule_eq_frame_iff _).2 ⟨⟨hr, hb, hust⟩, rfl⟩
    · rw [decodeFrame_of_not_marked hmarked] at hdecode
      cases hdecode

/-- Settles O10: what decodes is the instruction of the cycle, and no rule touches the inputs. -/
theorem stepRunsTheDecodedInstruction : Obligations.StepRunsTheDecodedInstruction := by
  refine ⟨fun s i hr h => ?_, fun s hrun => step_of_instr ((s.rule_eq_frame_iff _).2 ⟨hrun, rfl⟩)⟩
  have hrule := rule_of_decoded hr h
  rw [step_of_instr hrule]
  cases hexec : exec i s.beginCycle with
  | next u =>
    have hc : Cycle s.beginCycle u := cycle_iff.2 ((congrArg (fire · s.beginCycle) hrule).trans hexec)
    exact congrArg _ (State.endCycle_eq hr hc.par_ports.2 hc.upcoming hc.cycleCount)
  | fault f => rfl
  | refused r => rfl

/-! ### FIN (44_session.md R152) -/

/-- Settles O36, by what the FIN row writes; `cmd_ready` reads `busy` alone. -/
theorem finRow : Obligations.FinRow := by
  intro s hrun hupc
  have hkeep : ({ s.beginCycle with busy := false, doneStb := true, upc := 0 } : State) =
      { s.beginCycle with busy := false, doneStb := true } := by rw [← hupc]; rfl
  exact ⟨_, step_of_fin hrun hupc, congrArg State.endCycle hkeep, rfl, rfl, rfl, fun hr u => cmdReady_of_noRst hr⟩

/-! ### Branches (44_session.md R153) -/

theorem State.noWarmup_iff (s : State) : s.noWarmup = true ↔ s.a0 = 0 := beq_iff_eq

theorem State.noReading_iff (s : State) : s.noReading = true ↔ s.got = false := by simp [State.noReading]

theorem State.noSleep_iff (s : State) : s.noSleep = true ↔ s.a1.toNat ≤ s.a0.toNat := decide_eq_true_iff

theorem step_of_row {s : State} (hrun : Running .idle s) : step s = .next s.beginCycle.rowCycle.endCycle :=
  step_of_cycle (.row (s := s.beginCycle) hrun)

/-- Whether a micro-operation finds nothing to do depends on the parameters and the cancellation flag alone. -/
theorem MicroOp.idles_congr {op : MicroOp} {s t : State} (hpar : t.par = s.par) (hcancel : t.cancel = s.cancel) :
    op.idles t ↔ op.idles s := by
  cases op <;> simp only [MicroOp.idles, hpar, hcancel]

/-- A row whose micro-operation finds nothing to do labels the session and chooses the next row. -/
theorem State.rowCycle_of_idles {s : State} (hidles : (rowAt s.upc).op.idles s) :
    s.rowCycle = { s with sst := (rowAt s.upc).sst.getD s.sst, upc := (rowAt s.upc).nextRow s } := by
  have hop : State.microOp (rowAt s.upc).op { s with sst := (rowAt s.upc).sst.getD s.sst } = _ :=
    State.microOp_of_idles ((MicroOp.idles_congr rfl rfl).2 hidles)
  rw [State.rowCycle, State.labelSession_eq, hop]

theorem step_of_idling_row {s : State} (hrun : Running .idle s) (hidles : (rowAt s.upc).op.idles s) :
    step s = .next (State.endCycle { s.beginCycle with
      sst := (rowAt s.upc).sst.getD s.sst, upc := (rowAt s.upc).nextRow s }) := by
  rw [step_of_row hrun, State.rowCycle_of_idles (s := s.beginCycle) ((MicroOp.idles_congr rfl rfl).2 hidles)]
  rfl

/-- A BCANCEL row, none of which has a label. -/
theorem step_of_bcancel {s : State} {target next : RowNum} (hrun : Running .idle s)
    (hrow : rowAt s.upc = ⟨none, .bcancel target, next⟩) :
    step s = .next (State.endCycle (
      if s.cancel then { s.beginCycle with res := .cancelled, upc := target }
      else { s.beginCycle with upc := next })) := by
  have hcycle : s.beginCycle.rowCycle =
      { State.microOp (.bcancel target) s.beginCycle with
        upc := if s.cancel then target else next } := by
    rw [State.rowCycle, State.beginCycle_upc, hrow]
    rfl
  rw [step_of_row hrun, hcycle]
  cases hc : s.cancel <;> simp [State.microOp, State.cancelled, hc]

/-- Settles O37, by the table's seven branch rows and the condition each tests. -/
theorem branchRows : Obligations.BranchRows := by
  refine fun s hrun => ⟨fun hupc => ?_, fun hupc => ?_, fun hupc => ?_, fun hupc => ?_, fun next hrow => ?_⟩
  · rw [step_of_idling_row hrun (by rw [hupc]; trivial), hupc, ← if_congr s.noWarmup_iff rfl rfl]
    rfl
  · rw [step_of_idling_row hrun (by rw [hupc]; trivial), hupc, ← if_congr s.noReading_iff rfl rfl]
    rfl
  · rw [step_of_idling_row hrun (by rw [hupc]; trivial), hupc, ← if_congr s.noReading_iff rfl rfl]
    rfl
  · rw [step_of_idling_row hrun (by rw [hupc]; trivial), hupc, ← if_congr s.noSleep_iff rfl rfl]
    rfl
  · simp only [List.mem_cons, List.not_mem_nil, or_false, Prod.mk.injEq] at hrow
    refine step_of_bcancel hrun ?_
    obtain ⟨hupc, rfl⟩ | ⟨hupc, rfl⟩ | ⟨hupc, rfl⟩ := hrow <;> rw [hupc] <;> rfl

/-! ### REPORT and NOP (44_session.md R154) -/

theorem step_of_report {s : State} (hrun : Running .idle s) (hop : (rowAt s.upc).op = .report) :
    step s = .next (State.endCycle { s.beginCycle with
      sst := (rowAt s.upc).sst.getD s.sst, reportStb := true, upc := (rowAt s.upc).next }) :=
  step_of_straight_row hrun hop rfl

/-- Settles O38, by the table's two REPORT rows and its NOP row. -/
theorem reportAndNopRows : Obligations.ReportAndNopRows := by
  refine fun s hrun => ⟨fun hupc => ?_, fun hupc => ?_, fun hupc => ?_, fun t hstep hupc => ?_⟩
  · rw [step_of_report hrun (by rw [hupc]; rfl), hupc]
    rfl
  · rw [step_of_report hrun (by rw [hupc]; rfl), hupc]
    rfl
  · rw [step_of_straight_row hrun (op := .nop) (by rw [hupc]; rfl) rfl, hupc]
    rfl
  · rw [step_of_report hrun ((rowAt_op_eq_report_iff s.upc).2 hupc)] at hstep
    cases hstep
    exact ⟨rfl, rfl, rfl⟩

end Sys2Proof.Machine
end

section
/-! PROOFS. The family 44_session.md, the sessions run to their end: what the head of a session, its reset and enable,
and its finalizer leave, and the two shortest runs between them (R160, R161, R163). -/

namespace Sys2Proof.Machine

/-! ### Cycles that leave the stream and `got` alone -/

/-- The cycle runs a row that starts no receive, or a micro-routine of the reset pulse. -/
def StandsBy (s : State) : Prop :=
  s.ports.rst = false ∧ s.busy = true ∧
    ((s.ust = .idle ∧ (rowAt s.upc).op ≠ .recv) ∨ s.ust = .rsten ∨ s.ust = .settle)

/-- `got` is as it was, and what was buffered is still at the head of the stream. -/
def KeepsReading (s t : State) : Prop := t.got = s.got ∧ s.rxq <+: t.rxq

theorem KeepsReading.trans {s t u : State} (hst : KeepsReading s t) (htu : KeepsReading t u) : KeepsReading s u :=
  ⟨htu.1.trans hst.1, hst.2.trans htu.2⟩

theorem Receiving.ust {s : State} (h : Receiving s) :
    s.ust = .hunt ∨ s.ust = .mark2 ∨ s.ust = .body ∨ s.ust = .check :=
  h.imp Running.ust (Or.imp Running.ust (Or.imp Running.ust Running.ust))

theorem StandsBy.cycle {s u : State} (h : StandsBy s) (hc : Cycle s u) : u.got = s.got ∧ u.rxq = s.rxq := by
  obtain ⟨hr, hb, hust⟩ := h
  constructor
  · obtain hgot | ⟨hidle, -⟩ | ⟨hrun, hop⟩ | hreceiving := hc.got_writers hr
    · exact hgot
    · exact nomatch hb.symm.trans hidle
    · simp [hrun.ust, hop] at hust
    · obtain h | h | h | h := hreceiving.ust <;> simp [h] at hust
  · obtain hstream | ⟨-, -, hpops, -⟩ := hc.stream_cases
    · exact congrArg StreamSide.held hstream
    · obtain h | h | h | h := hpops <;> simp [h] at hust

theorem StandsBy.step {s t : State} (h : StandsBy s) (hstep : step s = .next t) : KeepsReading s t := by
  obtain ⟨u, hc, rfl⟩ := step_iff_cycle.1 hstep
  obtain ⟨hgot, hrxq⟩ := StandsBy.cycle (s := s.beginCycle) h hc
  exact ⟨hgot, hrxq ▸ List.prefix_append _ _⟩

theorem KeepsReading.of_run {n : Nat} {s t : State} (hrun : runCycles n s = .next t)
    (hby : ∀ k < n, ∀ u, runCycles k s = .next u → StandsBy u) : KeepsReading s t := by
  induction n generalizing s with
  | zero =>
    cases hrun
    exact ⟨rfl, List.prefix_rfl⟩
  | succ n ih =>
    obtain ⟨v, hstep, hrun⟩ := runCycles_succ_eq_next_iff.1 hrun
    have hrest := ih hrun fun k hk u hu => hby (k + 1) (by omega) u ((runCycles_succ k hstep).trans hu)
    exact ((hby 0 (by omega) s rfl).step hstep).trans hrest

/-! ### The RST row of a session, with or without the line (43_controller.md R131 to R133, R136) -/

/-- By how many cycles a reset line lengthens a RST row (43_controller.md R133). -/
def State.pulse (s : State) : Nat := if s.par.hasRst then 100 * s.par.nMs + 2 else 0

theorem resetPulse_standsBy {s : State} (hrun : Running .idle s) (hop : (rowAt s.upc).op = .rst)
    (hpresent : s.par.hasRst = true) (hahead : Ahead (100 * s.par.nMs + 3) Ports.noReset s) :
    ∀ k < 100 * s.par.nMs + 3, ∀ u, runCycles k s = .next u → StandsBy u := by
  intro k hk u hu
  have hr : u.ports.rst = false := ((hahead.mono (m := k + 1) hk).of_run hu).noRst
  match k with
  | 0 =>
    cases hu
    exact ⟨hr, hrun.busy, .inl ⟨hrun.ust, by simp [hop]⟩⟩
  | 1 =>
    obtain ⟨v, hrst, hstanding⟩ := standing_of_rst hrun hop hpresent
    cases hu.symm.trans (runCycles_succ 0 hrst)
    exact ⟨hr, (congrArg (·.control.busy) hstanding).trans hrun.busy, .inr (.inl (congrArg Standing.ust hstanding))⟩
  | n + 2 =>
    obtain ⟨v, hticks, -, hstanding, -⟩ :=
      resetPulse_holds (n := n) (k := 0) hrun hop hpresent (hahead.mono (by omega)) (by omega)
    cases hu.symm.trans hticks
    exact ⟨hr, (congrArg (·.control.busy) hstanding).trans hrun.busy, .inr (.inr (congrArg Standing.ust hstanding))⟩

/-- The control registers after a RST row and what it starts. -/
def Control.reset (c : Control) : Control :=
  { c with
    lineRst := if c.latched.par.hasRst then true else c.lineRst
    lineEn := if c.latched.par.hasRst && c.latched.par.hasEn then true else c.lineEn
    cst := if c.latched.par.hasRst then (if c.latched.par.hasEn then .enabled else .suspended) else c.cst }

theorem Control.reset_of_absent {c : Control} (h : c.latched.par.hasRst = false) : c.reset = c := by
  simp [Control.reset, h]

theorem Control.reset_of_present {c : Control} (h : c.latched.par.hasRst = true) : c.reset = c.afterPulse := by
  simp [Control.reset, Control.afterPulse, Control.pulse, h]

theorem resetRow_run {s : State} (hrun : Running .idle s) (hop : (rowAt s.upc).op = .rst)
    (hahead : Ahead (s.pulse + 1) Ports.noReset s) :
    ∃ t, runCycles (s.pulse + 1) s = .next t ∧ KeepsReading s t ∧
      t.standing = ⟨(s.held.advance (rowAt s.upc)).reset, s.res, .idle⟩ := by
  rw [State.pulse] at hahead ⊢
  cases hpresent : s.par.hasRst
  · obtain ⟨t, hstep, hstanding⟩ := standing_of_idle_row hrun hop rfl hpresent
    refine ⟨t, runCycles_succ 0 hstep, ?_, by rw [Control.reset_of_absent hpresent, hstanding]⟩
    exact StandsBy.step ⟨hrun.noRst, hrun.busy, .inl ⟨hrun.ust, by simp [hop]⟩⟩ hstep
  · rw [hpresent] at hahead
    obtain ⟨t, hpulse, hstanding⟩ := resetPulse_run hrun hop hpresent hahead
    exact ⟨t, hpulse, .of_run hpulse (resetPulse_standsBy hrun hop hpresent hahead),
      by rw [Control.reset_of_present hpresent, hstanding]⟩

/-! ### The head of a session: acceptance, reset, enable (44_session.md R151) -/

/-- The control registers after a row that drove the enable line. -/
def Control.drive (level : Bool) (c : Control) : Control :=
  { c with
    lineEn := if c.latched.par.hasEn then level else c.lineEn
    cst := if c.latched.par.hasEn then .driven level else c.cst }

theorem rowAt_head : ∀ op : BitVec 4, IsSession op →
    rowAt (entryRow op) = ⟨none, .rst, entryRow op + 1⟩ ∧
    rowAt (entryRow op + 1) = ⟨none, .drive true, entryRow op + 2⟩ ∧ entryCode op = .ok := by decide

theorem standing_of_drive {s : State} {level : Bool} (hrun : Running .idle s) (hop : (rowAt s.upc).op = .drive level) :
    ∃ t, step s = .next t ∧ KeepsReading s t ∧
      t.standing = ⟨(s.held.advance (rowAt s.upc)).drive level, s.res, .idle⟩ :=
  ⟨_, step_of_drive hrun hop, ⟨rfl, List.prefix_append _ _⟩, State.standing_eq_iff.2 ⟨rfl, rfl, hrun.ust⟩⟩

/-- The acceptance of a command, which clears `got`. -/
theorem keepsReading_of_offered {op : BitVec 4} {s : State} (h : Offered op s) :
    ∃ t, step s = .next t ∧ KeepsReading { s with got := false } t ∧
      t.standing = ⟨s.held.take op s.ports.cmdArg0 s.ports.cmdArg1, entryCode op, .idle⟩ := by
  obtain ⟨hr, hb, hust, hv, rfl⟩ := h
  exact ⟨_, step_of_command hr hb hv, ⟨rfl, List.prefix_append _ _⟩, State.standing_eq_iff.2 ⟨rfl, rfl, hust⟩⟩

/-- The control registers after the head of a session: it stands at the third of its rows. -/
def Control.begun (op : BitVec 4) (arg0 arg1 : Word) (c : Control) : Control :=
  { ((c.take op arg0 arg1).reset.drive true) with upc := entryRow op + 2 }

theorem session_head {op : BitVec 4} {s : State} (hop : IsSession op) (hoffered : Offered op s)
    (hahead : Ahead (s.pulse + 3) Ports.noReset s) :
    ∃ t, runCycles (s.pulse + 3) s = .next t ∧ KeepsReading { s with got := false } t ∧
      t.standing = ⟨s.held.begun op s.ports.cmdArg0 s.ports.cmdArg1, .ok, .idle⟩ := by
  obtain ⟨hrstRow, henRow, hcode⟩ := rowAt_head op hop
  obtain ⟨u, haccept, hku, hstanding⟩ := keepsReading_of_offered hoffered
  obtain ⟨hheld, hres, hust⟩ := State.standing_eq_iff.1 hstanding
  have hupc : u.upc = entryRow op := congrArg Control.upc hheld
  have hpulse : u.pulse = s.pulse :=
    congrArg (fun c : Control => if c.latched.par.hasRst then 100 * c.latched.par.nMs + 2 else 0) hheld
  have hahead := hahead.tail haccept
  rw [← hpulse] at hahead ⊢
  obtain ⟨v, hreset, hkv, hstanding⟩ := resetRow_run ⟨hahead.noRst, congrArg Control.busy hheld, hust⟩
    (by rw [hupc, hrstRow]) (hahead.mono (Nat.le_succ _))
  rw [hheld, hupc, hrstRow, hres, hcode] at hstanding
  obtain ⟨hheld, hres, hust⟩ := State.standing_eq_iff.1 hstanding
  have hupc : v.upc = entryRow op + 1 := congrArg Control.upc hheld
  obtain ⟨t, hen, hkt, hstanding⟩ := standing_of_drive (level := true)
    ⟨(hahead.of_run (n := u.pulse + 1) (k := 1) hreset).noRst, congrArg Control.busy hheld, hust⟩ (by rw [hupc, henRow])
  rw [hheld, hupc, henRow, hres] at hstanding
  exact ⟨t, (runCycles_succ _ haccept).trans ((runCycles_add 1 hreset).trans (runCycles_succ 0 hen)),
    (hku.trans hkv).trans hkt, hstanding⟩

/-! ### The end of a session: its finalizer row and FIN (44_session.md R163) -/

/-- What the finalizer row and FIN leave of the state `s` they begin in. -/
def Finished (s t : State) : Prop :=
  t.busy = false ∧ t.doneStb = true ∧ t.res = s.res ∧ t.got = s.got ∧ t.rd = s.rd ∧ t.sst = .done ∧
    t.lineEn = (if s.par.hasEn then false else s.lineEn) ∧ t.lineRst = s.lineRst

theorem session_end {s : State} (hb : s.busy = true) (hust : s.ust = .idle) (hrow : rowAt s.upc = .finalizer)
    (hahead : Ahead 2 Ports.noReset s) : ∃ t, runCycles 2 s = .next t ∧ Finished s t := by
  have hdis := step_of_drive (level := false) ⟨hahead.noRst, hb, hust⟩ (by rw [hrow]; rfl)
  rw [hrow] at hdis
  have hfin := step_of_fin ⟨(hahead.tail hdis).noRst, hb, hust⟩ rfl
  exact ⟨_, (runCycles_succ 1 hdis).trans (runCycles_succ 0 hfin), rfl, rfl, rfl, rfl, rfl, rfl, rfl, rfl⟩

/-! ### ONESHOT without warm-up (44_session.md R160) -/

theorem Ports.noReset_of_calm (x : Ports) (h : Ports.calm x = true) : Ports.noReset x = true := by
  simp [Ports.noReset, ((Ports.calm_iff x).1 h).1]

theorem Undisturbed.of_run {n k : Nat} {s t : State} (h : Undisturbed (n + k + 1) s) (hrun : runCycles n s = .next t) :
    Undisturbed (k + 1) t :=
  runCycles_keeps (I := fun k s => Undisturbed (k + 1) s) (fun _ _ _ h => h.of_step) h hrun

/-- The enable line is high after the head of a session, if present. -/
theorem Control.begun_lineEn (op : BitVec 4) (arg0 arg1 : Word) (c : Control) :
    (c.begun op arg0 arg1).lineEn = if c.latched.par.hasEn then true else c.lineEn := by
  cases hen : c.latched.par.hasEn <;> simp [Control.begun, Control.drive, Control.reset, Control.take, hen]

/-- From BZW to REPORT: the warm-up is skipped, the buffered frame is received, and its Reading is reported. -/
theorem oneshot_reports {s : State} {f : Vector Byte 32} {rest : List Byte} (hin : Undisturbed 39 s)
    (hb : s.busy = true) (hust : s.ust = .idle) (hupc : s.upc = 9) (ha0 : s.a0 = 0) (hq : f.toList ++ rest <+: s.rxq)
    (hmarked : Marked f) (hvalid : (decodeBuf f).1 = true) :
    ∃ t, runCycles 37 s = .next t ∧ t.reportStb = true ∧ t.got = true ∧ Undisturbed 2 t ∧
      t.standing = ⟨{ s.held with
        latched := { s.held.latched with rd := (decodeBuf f).2 }, sst := .reporting, upc := 15 }, .ok, .idle⟩ := by
  have hbzw := (branchRows s ⟨hin.noRst, hb, hust⟩).1 hupc
  rw [if_pos ha0] at hbzw
  obtain ⟨u, hreceive, hin, hidle, hgot, hres, -, hheld⟩ :=
    receive_of_recv (k := 3) (hin.of_step hbzw) hb hust rfl (hq.trans (List.prefix_append _ _)) hmarked hvalid
  have hb : u.busy = true := (congrArg Control.busy hheld).trans hb
  have hbnogot := (branchRows u ⟨hin.noRst, hb, hidle⟩).2.1 (congrArg Control.upc hheld)
  rw [if_neg (by simp [hgot])] at hbnogot
  have hin := hin.of_step hbnogot
  have hreport := (reportAndNopRows _ ⟨hin.noRst, hb, hidle⟩).1 rfl
  refine ⟨_, (runCycles_succ 36 hbzw).trans ((runCycles_add 2 hreceive).trans
    ((runCycles_succ 1 hbnogot).trans (runCycles_succ 0 hreport))), rfl, hgot, hin.of_step hreport,
    State.standing_eq_iff.2 ⟨?_, hres, hidle⟩⟩
  exact congrArg (fun c : Control => { c with sst := .reporting, upc := 15 }) hheld

/-- Settles O56: the head of the session, the receive and the report, and the end of the session. -/
theorem oneshotReportsABufferedFrame : Obligations.OneshotReportsABufferedFrame := by
  intro s fields h0 h1 rest hoffered harg hc hq
  change Ahead (s.pulse + 42) Ports.calm s → (∃ u, runCycles (s.pulse + 40) s = _ ∧ _) ∧
    ∃ t, runCycles (s.pulse + 42) s = _ ∧ _
  intro hahead
  have hdecode := encodedReadingDecodes fields h0 h1
  obtain ⟨u, hhead, ⟨-, hkept⟩, hstanding⟩ :=
    session_head (.inl rfl) hoffered ((hahead.imp Ports.noReset_of_calm).mono (by omega))
  obtain ⟨hheld, -, hust⟩ := State.standing_eq_iff.1 hstanding
  have hbuffered : (encodeReading fields h0 h1).toBuf.toList ++ rest <+: u.rxq := by
    rw [Frame.toList_toBuf, ← hq]
    exact hkept
  obtain ⟨v, hread, hreport, hgot, ⟨-, hcalm⟩, hstanding⟩ :=
    oneshot_reports (Undisturbed.of_run (n := s.pulse + 3) ⟨hc, hahead⟩ hhead) (congrArg Control.busy hheld) hust
      (congrArg Control.upc hheld) ((congrArg (·.latched.a0) hheld).trans harg) hbuffered
      (encodeReading_marked fields h0 h1) (by rw [hdecode])
  rw [hheld, hdecode] at hstanding
  obtain ⟨hheld, hres, hust⟩ := State.standing_eq_iff.1 hstanding
  have hpar : v.par = s.par := congrArg (·.latched.par) hheld
  have hrd : v.rd = fields := congrArg (·.latched.rd) hheld
  have hlineEn : v.lineEn = if s.par.hasEn then true else s.lineEn :=
    (congrArg Control.lineEn hheld).trans (Control.begun_lineEn _ _ _ _)
  obtain ⟨t, hend, hbusy, hdone, hres', hgot', hrd', hsst, hlineEn', -⟩ :=
    session_end (congrArg Control.busy hheld) hust (by rw [show v.upc = 15 from congrArg Control.upc hheld]; rfl)
      (hcalm.imp Ports.noReset_of_calm)
  have hrun : runCycles (s.pulse + 40) s = .next v := (runCycles_add 37 hhead).trans hread
  refine ⟨⟨v, hrun, hreport, hrd, hlineEn⟩, t, (runCycles_add 2 hrun).trans hend, hbusy, hdone, hres'.trans hres,
    hgot'.trans hgot, hrd'.trans hrd, hsst, ?_⟩
  rw [hlineEn', hpar, hlineEn]
  cases s.par.hasEn <;> rfl

/-! ### MONITOR, cancelled before its warm-up (44_session.md R161) -/

/-- The cancellation flag is set, and for `k` cycles after the coming one no reset and no byte comes. -/
def CancelledInSilence (k : Nat) (s : State) : Prop :=
  s.cancel = true ∧ Ahead (k + 1) Ports.noReset s ∧ Silent k s

theorem CancelledInSilence.noRst {k : Nat} {s : State} (h : CancelledInSilence k s) : s.ports.rst = false := h.2.1.noRst

theorem CancelledInSilence.cancel {k : Nat} {s : State} (h : CancelledInSilence k s) : s.cancel = true := h.1

theorem CancelledInSilence.empty {k : Nat} {s : State} (h : CancelledInSilence k s) : s.rxq = [] := h.2.2.1

theorem CancelledInSilence.tail {k : Nat} {s t : State} (h : CancelledInSilence (k + 1) s) (hstep : step s = .next t) :
    CancelledInSilence k t := by
  obtain ⟨hc, hahead, hsilent⟩ := h
  exact ⟨cancel_stands hc hahead hstep, hahead.tail hstep, hsilent.tail hstep⟩

theorem CancelledInSilence.of_run {n k : Nat} {s t : State} (h : CancelledInSilence (n + k) s)
    (hrun : runCycles n s = .next t) : CancelledInSilence k t :=
  runCycles_keeps (I := CancelledInSilence) (fun _ _ _ h => h.tail) h hrun

section
variable {k : Nat} {s : State} (hin : CancelledInSilence (k + 1) s) (hb : s.busy = true) (hust : s.ust = .idle)
include hin hb hust

/-- A WAIT row and the one cycle of its wait. -/
theorem wait_cancelled {o : WaitOperand} (hop : (rowAt s.upc).op = .wait o) :
    ∃ t, runCycles 2 s = .next t ∧ t.got = s.got ∧
      t.standing = ⟨s.held.advance (rowAt s.upc), .cancelled, .idle⟩ := by
  obtain ⟨u, hrow, -, -, hstanding⟩ := standing_of_wait_row ⟨hin.noRst, hb, hust⟩ hop
  obtain ⟨hheld, -, hwaiting⟩ := State.standing_eq_iff.1 hstanding
  obtain ⟨hgot, -⟩ := StandsBy.step ⟨hin.noRst, hb, .inl ⟨hust, by simp [hop]⟩⟩ hrow
  have hin := hin.tail hrow
  have hwait := step_of_wait ⟨hin.noRst, (congrArg Control.busy hheld).trans hb, hwaiting⟩
  rw [if_pos hin.cancel] at hwait
  exact ⟨_, (runCycles_succ 1 hrow).trans (runCycles_succ 0 hwait), hgot, State.standing_eq_iff.2 ⟨hheld, rfl, rfl⟩⟩

/-- A DRAIN row and the one cycle of its drain. -/
theorem drain_silent (hop : (rowAt s.upc).op = .drain) :
    ∃ t, runCycles 2 s = .next t ∧ t.got = s.got ∧
      t.standing = ⟨s.held.advance (rowAt s.upc), s.res, .idle⟩ := by
  obtain ⟨u, hrow, hstanding⟩ := standing_of_drain_row ⟨hin.noRst, hb, hust⟩ hop
  obtain ⟨hheld, hres, hdraining⟩ := State.standing_eq_iff.1 hstanding
  obtain ⟨hgot, -⟩ := StandsBy.step ⟨hin.noRst, hb, .inl ⟨hust, by simp [hop]⟩⟩ hrow
  have hin := hin.tail hrow
  have hdrain := step_of_drain_empty ⟨hin.noRst, (congrArg Control.busy hheld).trans hb, hdraining⟩ hin.empty
  exact ⟨_, (runCycles_succ 1 hrow).trans (runCycles_succ 0 hdrain), hgot, State.standing_eq_iff.2 ⟨hheld, hres, rfl⟩⟩

end

/-- From the warm-up to BCANCEL: the wait is cut short, the drain finds nothing, and no receive is attempted. -/
theorem monitor_cancelled {s : State} (hin : CancelledInSilence 6 s) (hb : s.busy = true) (hust : s.ust = .idle)
    (hupc : s.upc = 18) :
    ∃ t, runCycles 5 s = .next t ∧ CancelledInSilence 1 t ∧ t.got = s.got ∧
      t.standing = ⟨{ s.held with sst := .warming, upc := 31 }, .cancelled, .idle⟩ := by
  obtain ⟨u, hwait, hgotU, hstanding⟩ := wait_cancelled (o := .a0) hin hb hust (by rw [hupc]; rfl)
  rw [hupc] at hstanding
  obtain ⟨hheldU, -, hust⟩ := State.standing_eq_iff.1 hstanding
  have hin : CancelledInSilence 4 u := hin.of_run (n := 2) hwait
  have hupc : u.upc = 19 := congrArg Control.upc hheldU
  obtain ⟨v, hdrain, hgotV, hstanding⟩ :=
    drain_silent hin ((congrArg Control.busy hheldU).trans hb) hust (by rw [hupc]; rfl)
  rw [hupc, hheldU] at hstanding
  obtain ⟨hheldV, -, hust⟩ := State.standing_eq_iff.1 hstanding
  have hin : CancelledInSilence 2 v := hin.of_run (n := 2) hdrain
  have hupc : v.upc = 20 := congrArg Control.upc hheldV
  have hbcancel := step_of_bcancel (target := 31) (next := 21)
    ⟨hin.noRst, (congrArg Control.busy hheldV).trans hb, hust⟩ (by rw [hupc]; rfl)
  rw [if_pos hin.cancel] at hbcancel
  refine ⟨_, (runCycles_add 3 hwait).trans ((runCycles_add 1 hdrain).trans (runCycles_succ 0 hbcancel)),
    hin.tail hbcancel, hgotV.trans hgotU, State.standing_eq_iff.2 ⟨?_, rfl, hust⟩⟩
  exact congrArg (fun c : Control => { c with upc := 31 }) hheldV

/-- Settles O57: the head of the session, the warm-up cut short and what follows it, and the end of the session. -/
theorem cancelledMonitorCleansUp : Obligations.CancelledMonitorCleansUp := by
  intro s hoffered hc hq
  change Ahead (s.pulse + 10) Ports.noReset s → NoArrivals (s.pulse + 9) s →
    ∃ t, runCycles (s.pulse + 10) s = _ ∧ _
  intro hahead hsilent
  have hin : CancelledInSilence (s.pulse + 9) s := ⟨hc, hahead, .of_ahead hq hahead hsilent⟩
  obtain ⟨u, hhead, ⟨hgot, -⟩, hstanding⟩ := session_head (.inr rfl) hoffered (hahead.mono (by omega))
  obtain ⟨hheld, -, hust⟩ := State.standing_eq_iff.1 hstanding
  have hin : CancelledInSilence 6 u := hin.of_run (n := s.pulse + 3) hhead
  obtain ⟨v, hcancelled, ⟨-, hahead, -⟩, hgot', hstanding⟩ :=
    monitor_cancelled hin (congrArg Control.busy hheld) hust (congrArg Control.upc hheld)
  rw [hheld] at hstanding
  obtain ⟨hheld, hres, hust⟩ := State.standing_eq_iff.1 hstanding
  have hpar : v.par = s.par := congrArg (·.latched.par) hheld
  have hlineEn : v.lineEn = if s.par.hasEn then true else s.lineEn :=
    (congrArg Control.lineEn hheld).trans (Control.begun_lineEn _ _ _ _)
  obtain ⟨t, hend, hbusy, hdone, hres', hgot'', hrd, hsst, hlineEn', hlineRst⟩ :=
    session_end (congrArg Control.busy hheld) hust (by rw [show v.upc = 31 from congrArg Control.upc hheld]; rfl) hahead
  refine ⟨t, (runCycles_add 7 hhead).trans ((runCycles_add 2 hcancelled).trans hend), hbusy, hdone, hres'.trans hres,
    (hgot''.trans hgot').trans hgot, hrd.trans (congrArg (·.latched.rd) hheld), hsst, ?_,
    hlineRst.trans (congrArg Control.lineRst hheld)⟩
  rw [hlineEn', hpar, hlineEn]
  cases s.par.hasEn <;> rfl

end Sys2Proof.Machine
end

section
/-! PROOFS. The family 60_exceptions.md: `load(v)` and c ticks in closed form, and the rules that move the timer
(R195, R198). -/

namespace Sys2Proof.Machine

/-! ### A loaded timer counts down (60_exceptions.md R195) -/

/-- The tick that ends a millisecond. -/
theorem succ_div_mod_of_last {c n : Nat} (hn : 0 < n) (hlast : c % n = n - 1) :
    (c + 1) / n = c / n + 1 ∧ (c + 1) % n = 0 := by
  have hsplit := Nat.mod_add_div c n
  exact (Nat.div_mod_unique hn).2 ⟨by rw [Nat.mul_succ]; omega, hn⟩

/-- A tick within a millisecond. -/
theorem succ_div_mod_of_within {c n : Nat} (hn : 0 < n) (hwithin : c % n ≠ n - 1) :
    (c + 1) / n = c / n ∧ (c + 1) % n = c % n + 1 := by
  have hsplit := Nat.mod_add_div c n
  have hlt := Nat.mod_lt c hn
  exact (Nat.div_mod_unique hn).2 ⟨by omega, by omega⟩

/-- `load(v)` and `c` ticks in closed form (60_exceptions.md R195). -/
def State.counted (v : Word) (c : Nat) (s : State) : State :=
  { s with
    tmr := BitVec.ofNat 32 (v.toNat - c / s.par.nMs)
    pre := if c < v.toNat * s.par.nMs then c % s.par.nMs else 0 }

section
variable {v : Word} {c : Nat} {s : State}

theorem State.counted_of_elapsed (h : v.toNat * s.par.nMs ≤ c) : s.counted v c = { s with tmr := 0, pre := 0 } := by
  have hdiv : v.toNat ≤ c / s.par.nMs := (Nat.le_div_iff_mul_le (Params.nMs_pos s.par)).2 h
  rw [State.counted, if_neg h.not_gt, Nat.sub_eq_zero_of_le hdiv]
  rfl

theorem State.counted_of_running (h : c < v.toNat * s.par.nMs) :
    s.counted v c = { s with tmr := BitVec.ofNat 32 (v.toNat - c / s.par.nMs), pre := c % s.par.nMs } := by
  rw [State.counted, if_pos h]

theorem State.counted_tmr_eq_zero_iff : (s.counted v c).tmr = 0 ↔ v.toNat * s.par.nMs ≤ c := by
  have htmr : (s.counted v c).tmr = 0 ↔ v.toNat ≤ c / s.par.nMs := by
    have hv := v.isLt
    show BitVec.ofNat 32 (v.toNat - c / s.par.nMs) = 0 ↔ _
    generalize c / s.par.nMs = ms
    bv_omega
  rw [htmr, Nat.le_div_iff_mul_le (Params.nMs_pos s.par)]

/-- The tick after `c` others finds the timer expired, ends a millisecond, or falls within one. -/
theorem State.tick_counted : (s.counted v c).tick = s.counted v (c + 1) := by
  by_cases helapsed : v.toNat * s.par.nMs ≤ c
  · rw [State.tick_of_expired (State.counted_tmr_eq_zero_iff.2 helapsed), State.counted_of_elapsed helapsed,
      State.counted_of_elapsed (Nat.le_succ_of_le helapsed)]
  have hopen : (s.counted v c).tmr ≠ 0 := mt State.counted_tmr_eq_zero_iff.1 helapsed
  have hrunning : c < v.toNat * s.par.nMs := not_le.1 helapsed
  have hms : c / s.par.nMs < v.toNat := (Nat.div_lt_iff_lt_mul (Params.nMs_pos s.par)).2 hrunning
  have hpre : (s.counted v c).pre = c % s.par.nMs := if_pos hrunning
  by_cases hlast : c % s.par.nMs = s.par.nMs - 1
  · obtain ⟨hdiv, hmod⟩ := succ_div_mod_of_last (Params.nMs_pos s.par) hlast
    have hdec : BitVec.ofNat 32 (v.toNat - c / s.par.nMs) - 1 = BitVec.ofNat 32 (v.toNat - (c / s.par.nMs + 1)) := by
      generalize c / s.par.nMs = ms at hms
      bv_omega
    rw [State.tick_of_last hopen (hpre.trans hlast)]
    simp only [State.counted, hdiv, hmod, hdec, ite_self]
  · obtain ⟨hdiv, hmod⟩ := succ_div_mod_of_within (Params.nMs_pos s.par) hlast
    have hrunning' : c + 1 < v.toNat * s.par.nMs := by
      rw [← Nat.div_lt_iff_lt_mul (Params.nMs_pos s.par), hdiv]
      exact hms
    rw [State.tick_of_within hopen (mt hpre.symm.trans hlast), State.counted_of_running hrunning',
      State.counted_of_running hrunning, hdiv, hmod]

theorem State.tick_iterate_load : State.tick^[c] (s.load v) = s.counted v c := by
  induction c with
  | zero => simp [State.counted, State.load]
  | succ c ih => rw [Function.iterate_succ_apply', ih, State.tick_counted]

end

/-! ### The rules that move the timer (60_exceptions.md R195, R198) -/

/-- The timer's two registers (10_state.md R35). -/
def State.timer (s : State) : Word × Nat := (s.tmr, s.pre)

theorem State.timer_eq_iff {s : State} {v : Word} {n : Nat} : s.timer = (v, n) ↔ s.tmr = v ∧ s.pre = n := Prod.mk_inj

/-- A tick reads nothing but the timer and `N_MS`. -/
theorem State.tick_timer_congr {s u : State} (hpar : u.par = s.par) (htimer : u.timer = s.timer) :
    u.tick.timer = s.tick.timer := by
  obtain ⟨htmr, hpre⟩ := State.timer_eq_iff.1 htimer
  simp only [State.tick, State.timer, hpar, htmr, hpre, apply_ite State.tmr, apply_ite State.pre]

/-- What a cycle without `rst` that ends in `t` did with the timer of `s` (60_exceptions.md R195, R198). -/
inductive TimerMove (s t : State) : Prop
  | stands : t.timer = s.timer → TimerMove s t
  | ticks : (Running .settle s ∨ Running .wait s ∨ Running .mark2 s ∨ Running .body s) → t.timer = s.tick.timer →
      TimerMove s t
  | window : (Running .rsten s ∨ Running .hunt s ∨ Running .mark2 s) → t.timer = (100, 0) → TimerMove s t
  | wait (o : WaitOperand) : Running .idle s → (rowAt s.upc).op = .wait o → t.timer = (o.value s, 0) → TimerMove s t

theorem TimerMove.row {s : State} (hrun : Running .idle s) : TimerMove s s.rowCycle := by
  obtain ⟨op, v, hop, heffect, hrow⟩ := s.rowCycle_effect
  rw [hrow]
  cases heffect with
  | wait o => exact .wait o hrun hop rfl
  | fin | rst | en | dis | drain | recv | bcancel | report | none => exact .stands rfl

theorem TimerMove.settle {s : State} (hrun : Running .settle s) : TimerMove s s.settleCycle := by
  obtain ⟨-, heq⟩ | ⟨-, heq⟩ := s.settleCycle_cases <;> rw [heq]
  · exact .stands (by simp [State.timer])
  · exact .ticks (.inl hrun) rfl

theorem TimerMove.waitCycle {s : State} (hrun : Running .wait s) : TimerMove s s.waitCycle := by
  obtain ⟨-, heq⟩ | ⟨-, -, heq⟩ | ⟨-, -, heq⟩ := s.waitCycle_cases <;> rw [heq]
  · exact .stands rfl
  · exact .stands rfl
  · exact .ticks (.inr (.inl hrun)) rfl

theorem TimerMove.drain (s : State) : TimerMove s s.drainCycle := by
  obtain ⟨_, _, -, -, heq⟩ | ⟨-, heq⟩ := s.drainCycle_cases <;> rw [heq] <;> exact .stands rfl

theorem TimerMove.hunt {s : State} (hrun : Running .hunt s) : TimerMove s s.huntCycle := by
  obtain ⟨-, heq⟩ | ⟨-, -, heq⟩ | ⟨_, -, -, -, heq⟩ | ⟨_, _, -, -, -, -, heq⟩ | ⟨-, -, -, heq⟩ := s.huntCycle_cases <;>
    rw [heq]
  case inr.inr.inl => exact .window (.inr (.inl hrun)) rfl
  all_goals exact .stands rfl

theorem TimerMove.mark2 {s : State} (hrun : Running .mark2 s) : TimerMove s s.mark2Cycle := by
  obtain ⟨-, heq⟩ | ⟨_, -, -, -, heq⟩ | ⟨_, -, -, -, heq⟩ | ⟨_, _, -, -, -, heq⟩ | ⟨-, -, -, heq⟩ | ⟨-, -, -, heq⟩ :=
    s.mark2Cycle_cases <;> rw [heq]
  case inr.inr.inl => exact .window (.inr (.inr hrun)) rfl
  case inr.inr.inr.inr.inr => exact .ticks (.inr (.inr (.inl hrun))) rfl
  all_goals exact .stands rfl

theorem TimerMove.body {s u : State} (hrun : Running .body s) (hu : s.bodyCycle = .next u) : TimerMove s u := by
  obtain ⟨-, heq⟩ | ⟨_, _, -, -, _, heq⟩ | ⟨_, _, -, -, -, heq⟩ | ⟨-, -, -, heq⟩ | ⟨-, -, -, heq⟩ :=
    s.bodyCycle_cases <;> rw [heq] at hu <;> cases hu
  · exact .stands rfl
  · exact .ticks (.inr (.inr (.inr hrun))) (State.tick_timer_congr rfl rfl)
  · exact .stands rfl
  · exact .ticks (.inr (.inr (.inr hrun))) rfl

theorem QuietCycle.timerMove {s u : State} (h : QuietCycle s u) : TimerMove s u := by
  cases h with
  | wait hrun => exact .waitCycle hrun
  | drain => exact .drain s
  | hunt hrun => exact .hunt hrun
  | mark2 hrun => exact .mark2 hrun
  | body hrun hu => exact .body hrun hu
  | invalid => exact .stands rfl

theorem Cycle.timerMove {s u : State} (h : Cycle s u) (hr : s.ports.rst = false) : TimerMove s u := by
  cases h with
  | reset hrst => exact nomatch hr.symm.trans hrst
  | idle | accept | load => exact .stands rfl
  | row hrun => exact .row hrun
  | rsten hrun => exact .window (.inl hrun) rfl
  | settle hrun => exact .settle hrun
  | quiet hq => exact hq.timerMove

/-! ### The obligation -/

/-- Settles O40: the closed form by induction on the ticks, and the moves of the timer by the rule of the cycle. -/
theorem timerCountsMilliseconds : Obligations.TimerCountsMilliseconds := by
  refine ⟨fun v c s => ⟨State.tick_iterate_load, ?_⟩, fun s t hr hstep => ?_⟩
  · rw [State.tick_iterate_load, State.expired_iff, State.counted_tmr_eq_zero_iff]
  · obtain ⟨u, hc, rfl⟩ := step_iff_cycle.1 hstep
    cases hc.timerMove hr with
    | stands htimer => exact .inl (State.timer_eq_iff.1 htimer)
    | ticks hrun htimer =>
      have hsame : s.beginCycle.tick.timer = s.tick.timer := State.tick_timer_congr rfl rfl
      exact .inr (.inl ⟨hrun, State.timer_eq_iff.1 (htimer.trans hsame)⟩)
    | window hrun htimer => exact .inr (.inr (.inl ⟨hrun, State.timer_eq_iff.1 htimer⟩))
    | wait o hrun hop htimer =>
      obtain ⟨htmr, hpre⟩ := State.timer_eq_iff.1 htimer
      exact .inr (.inr (.inr ⟨hrun, hpre, o, hop, htmr⟩))

end Sys2Proof.Machine
end

section
/-! PROOFS. The family 70_reset_and_hazards.md: a reset cycle from any state (R210), a stray marker byte that hides a
frame (R214), and a command offered to a busy block (R216). -/

namespace Sys2Proof.Machine

/-! ### The reset cycle (70_reset_and_hazards.md R210) -/

theorem step_of_reset {s : State} (hr : s.ports.rst = true) : step s = .next s.beginCycle.hardReset.endCycle :=
  step_of_cycle (.reset (s := s.beginCycle) hr)

/-- Settles O16: the registers are those of the reset table, and the end of the cycle loses the request. -/
theorem resetCycleFromAnyState : Obligations.ResetCycleFromAnyState := by
  intro s hr
  have hlost : s.beginCycle.hardReset.endCycle.cancel = false := by
    rw [State.endCycle_cancel, State.hardReset_ports, State.beginCycle_ports, hr]
    rfl
  exact ⟨_, step_of_reset hr, cmdReady_of_rst hr, rfl, rfl, rfl, rfl, rfl, rfl, rfl, rfl, hlost, rfl, rfl, rfl, rfl,
    rfl, rfl, rfl, rfl, rfl, rfl, rfl⟩

/-! ### A command offered while busy (70_reset_and_hazards.md R216) -/

theorem offer_of_busy {s : State} (hb : s.busy = true) (taken : State → State) : offer taken s = .next s :=
  offer_eq_next_iff.2 (.inl ⟨hb, rfl⟩)

/-- Settles O14: every command is an offer, which a busy block ignores, and its step does not see the command port. -/
theorem busyBlockIgnoresTheCommandPort : Obligations.BusyBlockIgnoresTheCommandPort := by
  intro s hb
  refine ⟨fun op arg0 arg1 => ?_, fun v op arg0 arg1 => ?_⟩
  · rw [exec_decodeCommand, offer_of_busy hb]
  · exact step_withCommand_of_busy hb { Ports.quiet with cmdValid := v, cmdOp := op, cmdArg0 := arg0, cmdArg1 := arg1 }

/-! ### Bytes that start no frame (70_reset_and_hazards.md R214) -/

/-- A block that has received nothing since `s₀` is in micro-state `v` with `n` bytes gathered, and `q` is next in the
stream. -/
structure SeeksSince (s₀ : State) (v : Ust) (n : BitVec 6) (q : List Byte) (s : State) : Prop where
  busy : s.busy = true
  ust : s.ust = v
  cnt : s.cnt = n
  rd : s.rd = s₀.rd
  got : s.got = s₀.got
  ahead : q <+: s.rxq

theorem Undisturbed.notCancelled {k : Nat} {s : State} (h : Undisturbed k s) : s.cancel = false := h.1

section
variable {k : Nat} {s₀ s : State} {n : BitVec 6} {b : Byte} {q : List Byte}

/-- A first marker byte opens the window for the second (42_synchronizer.md R112). -/
theorem SeeksSince.mark0 (h : SeeksSince s₀ .hunt n (mark0Byte :: q) s) (hin : Undisturbed (k + 1) s) :
    ∃ t, step s = .next t ∧ SeeksSince s₀ .mark2 1 q t := by
  obtain ⟨hb, hust, -, hrd, hgot, hahead⟩ := h
  obtain ⟨l, hq, hnext⟩ := List.cons_prefix_iff.1 hahead
  have hstep := huntCycle s ⟨hin.noRst, hb, hust⟩
  rw [hin.notCancelled, hin.noFail, hq] at hstep
  exact ⟨_, hstep, hb, rfl, rfl, hrd, hgot, hnext.trans (List.prefix_append _ _)⟩

/-- The hunt drops any other byte (42_synchronizer.md R112). -/
theorem SeeksSince.hunt_stray (h : SeeksSince s₀ .hunt n (b :: q) s) (hin : Undisturbed (k + 1) s)
    (hstray : b ≠ mark0Byte) : ∃ t, step s = .next t ∧ SeeksSince s₀ .hunt n q t := by
  obtain ⟨hb, hust, hcnt, hrd, hgot, hahead⟩ := h
  obtain ⟨l, hq, hnext⟩ := List.cons_prefix_iff.1 hahead
  have hstep := huntCycle s ⟨hin.noRst, hb, hust⟩
  rw [hin.notCancelled, hin.noFail, hq] at hstep
  simp only [Bool.false_eq_true, if_false, if_neg (show b ≠ 0x42 from hstray)] at hstep
  exact ⟨_, hstep, hb, hust, hcnt, hrd, hgot, hnext.trans (List.prefix_append _ _)⟩

/-- A byte that is not the second marker byte is dropped with the first, not looked at again (42_synchronizer.md
R113). -/
theorem SeeksSince.mark2_stray (h : SeeksSince s₀ .mark2 n (b :: q) s) (hin : Undisturbed (k + 1) s)
    (hstray : b ≠ mark1Byte) : ∃ t, step s = .next t ∧ SeeksSince s₀ .hunt 0 q t := by
  obtain ⟨hb, hust, -, hrd, hgot, hahead⟩ := h
  obtain ⟨l, hq, hnext⟩ := List.cons_prefix_iff.1 hahead
  have hstep := markCycle s ⟨hin.noRst, hb, hust⟩
  rw [hin.noFail, hq] at hstep
  simp only [Bool.false_eq_true, if_false, if_neg (show b ≠ 0x4D from hstray)] at hstep
  exact ⟨_, hstep, hb, rfl, rfl, hrd, hgot, hnext.trans (List.prefix_append _ _)⟩

end

/-- Settles O29: the first 42 opens the window, the second is dropped as no second marker byte, and the 4D is no first
one. -/
theorem strayMarkerByteHidesAFrame : Obligations.StrayMarkerByteHidesAFrame := by
  intro s rest ⟨_, hb, hust⟩ hc hq hcalm
  have hin : Undisturbed 3 s := ⟨hc, hcalm⟩
  have hhunt : SeeksSince s .hunt s.cnt (mark0Byte :: 0x42 :: 0x4D :: rest) s :=
    ⟨hb, hust, rfl, rfl, rfl, hq ▸ List.prefix_rfl⟩
  obtain ⟨u, hopen, hmark2⟩ := hhunt.mark0 hin
  have hin := hin.of_step hopen
  obtain ⟨v, hdrop, hagain⟩ := hmark2.mark2_stray hin (by decide)
  obtain ⟨t, hstray, hseeks⟩ := hagain.hunt_stray (hin.of_step hdrop) (by decide)
  obtain ⟨hbusy, hust, hcnt, hrd, hgot, ⟨later, hrest⟩⟩ := hseeks
  have hrun : runCycles 3 s = .next t :=
    (runCycles_succ 2 hopen).trans ((runCycles_succ 1 hdrop).trans (runCycles_succ 0 hstray))
  exact ⟨t, later, hrun, hust, hcnt, hbusy, hrd, hgot, hrest.symm⟩

end Sys2Proof.Machine
end
